-- ==== Sys2Proof/Word.lean ====
section
/-! DEFINITION. The word types of 00_scope.md R13 and their plainest operations (R12, R13). -/

namespace Sys2Proof

/-- `u8` of R13. -/
abbrev U8 := BitVec 8
/-- `u16` of R13. -/
abbrev U16 := BitVec 16
/-- `u32` of R13. -/
abbrev U32 := BitVec 32
/-- `u64` of R13. -/
abbrev U64 := BitVec 64

/-- `zext_N` of R13 when `n ≥ w`, `trunc_N` of R13 when `n ≤ w`. -/
abbrev zext {w : Nat} (n : Nat) (v : BitVec w) : BitVec n := v.setWidth n

/-- `sext_N` of R13: defined for completeness; no rule of the spec uses it. -/
abbrev sext {w : Nat} (n : Nat) (v : BitVec w) : BitVec n := v.signExtend n

/-- `v[hi:lo]` of R12, as a word of `hi - lo + 1` bits. -/
abbrev bits {w : Nat} (hi lo : Nat) (v : BitVec w) : BitVec (hi - lo + 1) := v.extractLsb hi lo

/-- `v[i] = 1` of R12. -/
abbrev bitSet {w : Nat} (v : BitVec w) (i : Nat) : Bool := v.getLsbD i

end Sys2Proof
end

