-- ==== Sys2Proof/Config.lean ====
section
/-! DEFINITION. What an implementation fixes (the configuration record `Cfg` of 00_scope.md R10, the constants of R8 and R9)
and the free values of the environment (10_state.md R50, R51). -/

namespace Sys2Proof

/-- The registers of one auxiliary pin: *control* and *data1* to *data5* (10_state.md R34), as byte offsets. -/
structure AuxOffsets where
  ctl   : U32
  data1 : U32
  data2 : U32
  data3 : U32
  data4 : U32
  data5 : U32
deriving DecidableEq, Repr

/-- The configuration record `Cfg` (00_scope.md R10), one field per `OPEN` parameter, and the model parameter of
93_implementation_defined.md U17. It never changes (10_state.md R21). -/
structure Cfg where
  /-- `PERIPH_ADDR`: 7 bits, so that `0 <= A < 128`. -/
  periphAddr : BitVec 7
  /-- `TW_SELECT_OFF`. -/
  twSelectOff : U32
  /-- `TW_COMMAND_OFF`. -/
  twCommandOff : U32
  /-- `TW_STATUS_OFF`. -/
  twStatusOff : U32
  /-- `TW_DATA_OFF`. -/
  twDataOff : U32
  /-- `TW_CMD_SW_RDY`. -/
  twCmdSwRdy : U32
  /-- `TW_CMD_CYCLE_WAIT`. -/
  twCmdCycleWait : U32
  /-- `TW_CMD_COUNT_SHIFT`. -/
  twCmdCountShift : Nat
  /-- `TW_CMD_COUNT_WIDTH`. -/
  twCmdCountWidth : Nat
  /-- `TW_CMD_ADDR_SHIFT`. -/
  twCmdAddrShift : Nat
  /-- `TW_CMD_DIR_READ`. -/
  twCmdDirRead : U32
  /-- `TW_CMD_DIR_WRITE`. -/
  twCmdDirWrite : U32
  /-- `TW_ST_HW_RDY`. -/
  twStHwRdy : U32
  /-- `TW_ST_BUS_ERR`. -/
  twStBusErr : U32
  /-- `TW_ST_INUSE`: named by the source, read by no rule. -/
  twStInuse : U32
  /-- `TW_ST_TIMEOUT`: named by the source, read by no rule. -/
  twStTimeout : U32
  /-- `TW_ST_ACTIVE`: named by the source, read by no rule. -/
  twStActive : U32
  /-- `AUX_CTL_OFF(p)` and `AUX_DATA_OFF(p,k)` for `p` in 0..5, `k` in 1..5. -/
  auxPins : Vector AuxOffsets 6
  /-- `AUX_CTL_TUNING`. -/
  auxCtlTuning : U32
  /-- `AUX_OP_I2C_WRITE`: 4 bits, so that it is below 16. -/
  auxOpI2cWrite : BitVec 4
  /-- `AUX_OP_I2C_READ`. -/
  auxOpI2cRead : BitVec 4
  /-- `AUX_OP_MOT`. -/
  auxOpMot : BitVec 4
  /-- `DTD_OFF`. -/
  dtdOff : Nat
  /-- `SYNC_SHIFT_OFF`. -/
  syncShiftOff : U32
  /-- `HTOTAL_OFF`. -/
  htotalOff : U32
  /-- `HBLANK_OFF`. -/
  hblankOff : U32
  /-- `HSYNC_OFF`. -/
  hsyncOff : U32
  /-- `VTOTAL_OFF`. -/
  vtotalOff : U32
  /-- `VBLANK_OFF`. -/
  vblankOff : U32
  /-- `VSYNC_OFF`. -/
  vsyncOff : U32
  /-- `PIPECONF_OFF`. -/
  pipeconfOff : U32
  /-- `PIPECONF_ENABLE`. -/
  pipeconfEnable : U32
  /-- `PIPECONF_ACTIVE`. -/
  pipeconfActive : U32
  /-- `PLANE_OFFSET_OFF`. -/
  planeOffsetOff : U32
  /-- `PLANE_STRIDE_OFF`. -/
  planeStrideOff : U32
  /-- `PLANE_SIZE_OFF`. -/
  planeSizeOff : U32
  /-- `PLANE_SURF_OFF`. -/
  planeSurfOff : U32
  /-- `PLANE_CTL_OFF`. -/
  planeCtlOff : U32
  /-- `PLANE_CTL_VALUE`. -/
  planeCtlValue : U32
  /-- Whether `HIST` survives `RESET`: the parameter of U17 (70_reset_and_hazards.md R270). -/
  histKept : Bool
deriving DecidableEq, Repr

/-- The defaults of R10 for auxiliary pin `p`: `0x64010 + (p<<8)` and `0x64014 + (p<<8) + 4*(k-1)`.
PRESUMED (K6: general knowledge, not in the source). -/
def AuxOffsets.default (p : Nat) : AuxOffsets :=
  let base : U32 := BitVec.ofNat 32 (0x64010 + p * 256)
  { ctl := base, data1 := base + 4, data2 := base + 8, data3 := base + 12, data4 := base + 16, data5 := base + 20 }

/-- The default configuration of R10. PRESUMED (K1 to K11 of 93_implementation_defined.md: general knowledge, not in the
source); no claim may take a default for a fact about the hardware. -/
def Cfg.default : Cfg where
  periphAddr      := 0x50
  twSelectOff     := 0xC5100
  twCommandOff    := 0xC5104
  twStatusOff     := 0xC5108
  twDataOff       := 0xC510C
  twCmdSwRdy      := 0x40000000
  twCmdCycleWait  := 0x02000000
  twCmdCountShift := 16
  twCmdCountWidth := 9
  twCmdAddrShift  := 1
  twCmdDirRead    := 1
  twCmdDirWrite   := 0
  twStHwRdy       := 0x00000800
  twStBusErr      := 0x00000400
  twStInuse       := 0x00008000
  twStTimeout     := 0x00002000
  twStActive      := 0x00000200
  auxPins         := #v[AuxOffsets.default 0, AuxOffsets.default 1, AuxOffsets.default 2,
                        AuxOffsets.default 3, AuxOffsets.default 4, AuxOffsets.default 5]
  auxCtlTuning    := 0x0C0003FF
  auxOpI2cWrite   := 0x0
  auxOpI2cRead    := 0x1
  auxOpMot        := 0x4
  dtdOff          := 54
  syncShiftOff    := 0x60028
  htotalOff       := 0x60000
  hblankOff       := 0x60004
  hsyncOff        := 0x60008
  vtotalOff       := 0x6000C
  vblankOff       := 0x60010
  vsyncOff        := 0x60014
  pipeconfOff     := 0x70008
  pipeconfEnable  := 0x80000000
  pipeconfActive  := 0x40000000
  planeOffsetOff  := 0x701A4
  planeStrideOff  := 0x70188
  planeSizeOff    := 0x70190
  planeSurfOff    := 0x7019C
  planeCtlOff     := 0x70180
  planeCtlValue   := 0x84002000
  histKept        := true

/-- The answers to a publish exchange (30_encoding.md R111). -/
inductive PublishAnswer where
  /-- `CFG_OK`. -/
  | ok
  /-- `CFG_TOO_SMALL`. -/
  | tooSmall
  /-- `CFG_ERROR`. -/
  | error
deriving DecidableEq, Repr, Inhabited

/-- The answers to a grow request (30_encoding.md R111). -/
inductive GrowAnswer where
  /-- `GROW_OK`. -/
  | ok
  /-- `GROW_FAIL`. -/
  | fail
deriving DecidableEq, Repr, Inhabited

namespace Config

/-- The identity string of this spec (00_scope.md R2). -/
def identity : String := "i915ovmf-bringup/1"

/-- `TW_PIN_FIRST` (00_scope.md R9, D1). -/
abbrev twPinFirst : U8 := 2
/-- `TW_PIN_LAST` (00_scope.md R9, D1). -/
abbrev twPinLast : U8 := 6
/-- `AUX_PIN_FIRST` (00_scope.md R8). -/
abbrev auxPinFirst : U8 := 0
/-- `AUX_PIN_LAST` (00_scope.md R8). -/
abbrev auxPinLast : U8 := 5
/-- `AUX_POLL_BUDGET` (00_scope.md R8). -/
abbrev auxPollBudget : U16 := 16384
/-- `EDID_LEN`, `TW_READ_LEN` and `AUX_READS` (00_scope.md R8): all 128. -/
abbrev edidLen : Nat := 128
/-- `PLACEHOLDER_HRES` (00_scope.md R8). -/
abbrev placeholderHres : U32 := 1024
/-- `PLACEHOLDER_VRES` (00_scope.md R8). -/
abbrev placeholderVres : U32 := 768

/-- FREE VALUE (log 4). What the device answers to the read that is the `n`-th answer taken, at offset `off`, when the device
script holds no answer: any value, never constrained by earlier accesses (10_state.md R50, 93 U2). -/
opaque freeRead (n : Nat) (off : U32) : U64

/-- FREE VALUE (log 5). What the host answers to a publish exchange when the script holds no answer (93 U16). -/
opaque freePublish (n : Nat) : PublishAnswer

/-- FREE VALUE (log 5). What the host answers to a grow request when the script holds no answer (93 U16). -/
opaque freeGrow (n : Nat) : GrowAnswer

end Config

end Sys2Proof
end

