-- ==== Sys2Proof/Machine/CfgCheck.lean ====
section
/-! DEFINITION. When a configuration is well-formed (00_scope.md R10, R11). -/

namespace Sys2Proof

/-- Exactly one bit of a mask is set (R10's "one bit"). -/
def oneBit (m : U32) : Bool := (List.range 32).any fun i => m == 1#32 <<< i

/-- A register offset is a multiple of 4 (R10). -/
def aligned4 (off : U32) : Bool := off.toNat % 4 == 0

/-- No number occurs twice. -/
def allDistinct : List Nat → Bool
  | [] => true
  | x :: xs => !(xs.elem x) && allDistinct xs

/-- The six registers of one auxiliary pin. -/
def AuxOffsets.all (a : AuxOffsets) : List U32 := [a.ctl, a.data1, a.data2, a.data3, a.data4, a.data5]

/-- The two-wire register offsets. -/
def Cfg.twOffsets (c : Cfg) : List U32 := [c.twSelectOff, c.twCommandOff, c.twStatusOff, c.twDataOff]

/-- The auxiliary register offsets of all six pins. -/
def Cfg.auxOffsets (c : Cfg) : List U32 := c.auxPins.toList.flatMap AuxOffsets.all

/-- The pipe register offsets. -/
def Cfg.pipeOffsets (c : Cfg) : List U32 :=
  [c.syncShiftOff, c.htotalOff, c.hblankOff, c.hsyncOff, c.vtotalOff, c.vblankOff, c.vsyncOff, c.pipeconfOff]

/-- The plane register offsets. -/
def Cfg.planeOffsets (c : Cfg) : List U32 :=
  [c.planeOffsetOff, c.planeStrideOff, c.planeSizeOff, c.planeSurfOff, c.planeCtlOff]

/-- Every register offset R10 names. -/
def Cfg.registerOffsets (c : Cfg) : List U32 :=
  c.twOffsets ++ c.auxOffsets ++ c.pipeOffsets ++ c.planeOffsets

/-- The bits of the two-wire *command* word that belong to a field other than the cycle type. -/
def Cfg.twCmdOtherFields (c : Cfg) : U32 :=
  c.twCmdSwRdy ||| (BitVec.ofNat 32 (2 ^ c.twCmdCountWidth - 1) <<< c.twCmdCountShift) |||
    (0x7F#32 <<< c.twCmdAddrShift) ||| c.twCmdDirRead ||| c.twCmdDirWrite

/-- The masks and shifts of the two-wire *command* and *status* words (R10). -/
def Cfg.twWordsWf (c : Cfg) : Bool :=
  oneBit c.twCmdSwRdy && (c.twCmdCycleWait &&& c.twCmdOtherFields == 0) && decide (8 ≤ c.twCmdCountWidth) &&
  (c.twCmdDirRead != c.twCmdDirWrite) && oneBit c.twStHwRdy && oneBit c.twStBusErr && (c.twStHwRdy != c.twStBusErr)

/-- The tuning bits avoid bits 31, 30, 28, 25 and 24:20 of *control*; the descriptor fits in the block; the two
pipe-configuration masks are one bit each and differ (R10). -/
def Cfg.otherWordsWf (c : Cfg) : Bool :=
  (c.auxCtlTuning &&& 0xD3F00000 == 0) && decide (c.dtdOff ≤ 110) &&
  oneBit c.pipeconfEnable && oneBit c.pipeconfActive && (c.pipeconfEnable != c.pipeconfActive)

/-- Every register offset is a multiple of 4 and no two are equal (R10, R11). -/
def Cfg.offsetsWf (c : Cfg) : Bool :=
  c.registerOffsets.all aligned4 && allDistinct (c.registerOffsets.map BitVec.toNat)

/-- A configuration is well-formed (R11). -/
def Cfg.wf (c : Cfg) : Bool := c.offsetsWf && c.twWordsWf && c.otherWordsWf

end Sys2Proof
end

