-- ==== Sys2Proof/Syntax.lean ====
section
/-! DEFINITION. The instructions: one constructor per row of spec/opcode_table.json. -/

namespace Sys2Proof

/-- The three auxiliary-channel operations (10_state.md R25 `AUX_OP`; 42_aux_channel.md R151). -/
inductive AuxOp where
  /-- `INDEX_WRITE`. -/
  | indexWrite
  /-- `WRITE_PROBE`. -/
  | writeProbe
  /-- `READ_BYTE`. -/
  | readByte
deriving DecidableEq, Repr

/-- One constructor per row of the opcode table. A host command (format `CMD`, 30_encoding.md R81) carries its two 64-bit
operands whole, also where its rule ignores them, because command issue latches them (R82); `NOP` latches nothing (R235).
The rows of formats `AUXHDR` and `TWCMD` are words the block itself writes; they carry the peripheral address. -/
inductive Instr where
  /-- `NOP` (45 R235). -/
  | nop
  /-- `PORT_RD32 off`, `off = a0[31:0]` (40 R121). -/
  | portRd32 (a0 a1 : U64)
  /-- `PORT_WR32 off, value`, `off = a0[31:0]`, `value = a1[31:0]` (40 R122). -/
  | portWr32 (a0 a1 : U64)
  /-- `PORT_RD64 off`, `off = a0[31:0]` (40 R123). -/
  | portRd64 (a0 a1 : U64)
  /-- `TW_READ pin` (41 R143). -/
  | twRead (pin : U8) (a0 a1 : U64)
  /-- `AUX_READ pin` (42 R166). -/
  | auxRead (pin : U8) (a0 a1 : U64)
  /-- `ACQUIRE` (43 R175). -/
  | acquire (a0 a1 : U64)
  /-- `BRINGUP` (43 R183). -/
  | bringup (a0 a1 : U64)
  /-- `DECODE` (44 R190). -/
  | decode (a0 a1 : U64)
  /-- `APPLY fb_base, aperture_base`, also spelled `MODE_SET` (45 R210; 30 R84). -/
  | apply (a0 a1 : U64)
  /-- `MODE_QUERY` (45 R233). -/
  | modeQuery (a0 a1 : U64)
  /-- `AUX_INDEX_WRITE` (42 R163). -/
  | auxIndexWrite (addr : U16)
  /-- `AUX_WRITE_PROBE` (42 R164). -/
  | auxWriteProbe (addr : U16)
  /-- `AUX_READ_BYTE` (42 R165). -/
  | auxReadByte (addr : U16)
  /-- `TW_INDEX_WRITE_CYCLE` (41 R136). -/
  | twIndexWriteCycle (addr : BitVec 7)
  /-- `TW_READ_CYCLE` (41 R138). -/
  | twReadCycle (addr : BitVec 7)
deriving DecidableEq, Repr

/-! The operation codes of 30_encoding.md R81. -/
namespace Op
/-- `NOP`. -/
abbrev nop : U8 := 0x00
/-- `PORT_RD32`. -/
abbrev portRd32 : U8 := 0x01
/-- `PORT_WR32`. -/
abbrev portWr32 : U8 := 0x02
/-- `PORT_RD64`. -/
abbrev portRd64 : U8 := 0x03
/-- `TW_READ`. -/
abbrev twRead : U8 := 0x10
/-- `AUX_READ`. -/
abbrev auxRead : U8 := 0x11
/-- `ACQUIRE`. -/
abbrev acquire : U8 := 0x12
/-- `BRINGUP`. -/
abbrev bringup : U8 := 0x13
/-- `DECODE`. -/
abbrev decode : U8 := 0x20
/-- `APPLY`. -/
abbrev apply : U8 := 0x30
/-- `MODE_QUERY`. -/
abbrev modeQuery : U8 := 0x31
end Op

end Sys2Proof
end

