-- ==== Sys2Proof/Machine/WireWords.lean ====
section
/-! DEFINITION. The words of 00_scope.md R17 and 30_encoding.md: two-wire, auxiliary, pipe and plane words, and the header test. -/

namespace Sys2Proof.Machine

/-- `Magic(b)` of R17: the first eight bytes are `00 FF FF FF FF FF FF 00`. -/
def magic (b : Vector U8 128) : Bool :=
  b[0] == 0x00 && b[1] == 0xFF && b[2] == 0xFF && b[3] == 0xFF &&
  b[4] == 0xFF && b[5] == 0xFF && b[6] == 0xFF && b[7] == 0x00

/-- `TwCmd(A, n, dir)` of R17, 30_encoding.md R86: the plain OR of the five fields. -/
def twCmd (c : Cfg) (addr : BitVec 7) (n : U8) (dir : U32) : U32 :=
  c.twCmdSwRdy ||| c.twCmdCycleWait ||| (zext 32 n <<< c.twCmdCountShift) |||
    (zext 32 addr <<< c.twCmdAddrShift) ||| dir

/-- The *command* word of the index-write cycle: one byte, write direction (41 R136). -/
def twIndexWriteWord (c : Cfg) (addr : BitVec 7) : U32 := twCmd c addr 1 c.twCmdDirWrite

/-- The *command* word of the read cycle: 128 bytes, read direction (41 R138). -/
def twReadWord (c : Cfg) (addr : BitVec 7) : U32 := twCmd c addr 128 c.twCmdDirRead

/-- The *select* word: the pin alone (30_encoding.md R85). -/
def twSelectWord (pin : U8) : U32 := zext 32 pin

/-- `AuxHdr(op, A, l)` of R17, 30_encoding.md R90. -/
def auxHdr (op : BitVec 4) (addr : U16) (len : U8) : U32 :=
  (zext 32 op <<< 28) ||| (zext 32 addr <<< 8) ||| zext 32 len

/-- The operation field of each auxiliary operation (30_encoding.md R91; 42 R151). -/
def auxOpCode (c : Cfg) : AuxOp → BitVec 4
  | .indexWrite => c.auxOpI2cWrite ||| c.auxOpMot
  | .writeProbe => c.auxOpI2cWrite
  | .readByte   => c.auxOpI2cRead

/-- The request header of an operation: length field 0, one byte (42 R151). -/
def auxHeader (c : Cfg) (op : AuxOp) (addr : U16) : U32 := auxHdr (auxOpCode c op) addr 0

/-- The message size of an operation (42 R151; D9). -/
def auxSize : AuxOp → BitVec 5
  | .indexWrite => 5
  | .writeProbe => 5
  | .readByte   => 4

/-- The *data2* word of a one-byte write request: the byte in bits 31:24 (30_encoding.md R94). -/
def auxDataWord (b : U8) : U32 := zext 32 b <<< 24

/-- Request byte `j` of a request laid out big-endian in *data1* and *data2* (30_encoding.md R89). -/
def auxRequestByte (data1 data2 : U32) (j : Nat) : U8 :=
  zext 8 ((if j < 4 then data1 else data2) >>> (24 - 8 * (j % 4)))

/-- `AuxStart(size)` of R17, 30_encoding.md R92. -/
def auxStart (c : Cfg) (size : BitVec 5) : U32 :=
  0x80000000 ||| 0x40000000 ||| 0x10000000 ||| 0x02000000 ||| (zext 32 size <<< 20) ||| c.auxCtlTuning

/-- `AuxClear(st)` of R17, 30_encoding.md R93. -/
def auxClear (st : U32) : U32 := st ||| 0x40000000 ||| 0x10000000 ||| 0x02000000

/-- The received byte: bits 23:16 of *data1* (30_encoding.md R95). -/
def auxReplyByte (w : U32) : U8 := bits 23 16 w

/-- The byte at `off + k` of a word the port moves at `off`: little-endian (20_memory.md R68). -/
def portByte {w : Nat} (v : BitVec w) (k : Nat) : U8 := zext 8 (v >>> (8 * k))

/-- `TimingWord(a, b)` of R17, 30_encoding.md R104: `u32` arithmetic, no masking. -/
def timingWord (a b : U32) : U32 := (a - 1) ||| ((b - 1) <<< 16)

/-- `Stride(h)` of R17, 30_encoding.md R107. -/
def stride (h : U32) : U32 := (h * 4 + 63) &&& 0xFFFFFFC0

/-- The plane stride word, in 64-byte units (30_encoding.md R109). -/
def planeStrideWord (h : U32) : U32 := stride h >>> 6

/-- The surface word: the low half of `framebuffer_base - aperture_base` (45 R222). -/
def surfaceWord (fbBase apBase : U64) : U32 := zext 32 (fbBase - apBase)

end Sys2Proof.Machine
end

