-- ==== Sys2Proof/Decode.lean ====
section
/-! DEFINITION. Decoding and encoding (30_encoding.md R81 to R83, R86, R90; spec/opcode_table.json). -/

namespace Sys2Proof

open Sys2Proof.Machine

/-- Why a word is no instruction. -/
inductive DecodeError where
  /-- `cw[31:16]` is not 0 (R83). -/
  | reservedBits
  /-- The operation code is not in R81's table (R83). -/
  | unknownOpcode
  /-- `cw[15:8]` is not 0 on a command that takes no pin (R83). -/
  | pinNotTaken
  /-- No request header of R151. -/
  | notAuxHeader
  /-- No cycle word of R86. -/
  | notTwoWireCycle
deriving DecidableEq, Repr

/-- What decoding answers. -/
inductive Decoded where
  | ok (i : Instr)
  | rejected (e : DecodeError)
deriving DecidableEq, Repr

/-- A host command as it is issued: the command word and its two operands (R81). -/
structure CmdWords where
  cw : U32
  a0 : U64
  a1 : U64
deriving DecidableEq, Repr

/-- The words of an instruction, with the place they are written to: a word alone does not say whether it is a command word,
a request header in *data1* or a word of the two-wire *command* register. -/
inductive Encoded where
  | command (w : CmdWords)
  | auxHeader (w : U32)
  | twCommand (w : U32)
deriving DecidableEq, Repr

/-- The opcode of a command word (R81). -/
def cwOp (cw : U32) : U8 := bits 7 0 cw
/-- The pin field of a command word (R81). -/
def cwPin (cw : U32) : U8 := bits 15 8 cw
/-- The reserved field of a command word (R81). -/
def cwRsvd (cw : U32) : U16 := bits 31 16 cw

/-- The command word of an opcode and a pin (R81). -/
def commandWord (op pin : U8) : U32 := (zext 32 pin <<< 8) ||| zext 32 op

/-- The instruction of an opcode (R81's table); the pin is the operand of `TW_READ` and `AUX_READ`. -/
def instrOfOp (op pin : U8) (a0 a1 : U64) : Option Instr :=
  if op = Op.nop then some .nop
  else if op = Op.portRd32 then some (.portRd32 a0 a1)
  else if op = Op.portWr32 then some (.portWr32 a0 a1)
  else if op = Op.portRd64 then some (.portRd64 a0 a1)
  else if op = Op.twRead then some (.twRead pin a0 a1)
  else if op = Op.auxRead then some (.auxRead pin a0 a1)
  else if op = Op.acquire then some (.acquire a0 a1)
  else if op = Op.bringup then some (.bringup a0 a1)
  else if op = Op.decode then some (.decode a0 a1)
  else if op = Op.apply then some (.apply a0 a1)
  else if op = Op.modeQuery then some (.modeQuery a0 a1)
  else none

/-- The opcodes that take a pin (R81). -/
def takesPin (op : U8) : Bool := op == Op.twRead || op == Op.auxRead

/-- Decoding a host command (R81 to R83); total. -/
def decodeCommand (c : CmdWords) : Decoded :=
  if cwRsvd c.cw = 0 then
    match instrOfOp (cwOp c.cw) (cwPin c.cw) c.a0 c.a1 with
    | some i => if takesPin (cwOp c.cw) || cwPin c.cw == 0 then .ok i else .rejected .pinNotTaken
    | none   => .rejected .unknownOpcode
  else .rejected .reservedBits

/-- Reading a request header of *data1* (R90, R151): the address is bits 23:8. -/
def decodeAuxHeader (c : Cfg) (w : U32) : Decoded :=
  let addr : U16 := bits 23 8 w
  if w = auxHeader c .indexWrite addr then .ok (.auxIndexWrite addr)
  else if w = auxHeader c .writeProbe addr then .ok (.auxWriteProbe addr)
  else if w = auxHeader c .readByte addr then .ok (.auxReadByte addr)
  else .rejected .notAuxHeader

/-- Reading a word of the two-wire *command* register (R86). -/
def decodeTwCommand (c : Cfg) (w : U32) : Decoded :=
  let addr : BitVec 7 := zext 7 (w >>> c.twCmdAddrShift)
  if w = twIndexWriteWord c addr then .ok (.twIndexWriteCycle addr)
  else if w = twReadWord c addr then .ok (.twReadCycle addr)
  else .rejected .notTwoWireCycle

/-- Decoding, by the place a word is written to. -/
def decode (c : Cfg) : Encoded → Decoded
  | .command w   => decodeCommand w
  | .auxHeader w => decodeAuxHeader c w
  | .twCommand w => decodeTwCommand c w

/-- Encoding, from the same tables (R81, R86, R90, R151). `NOP`'s operands are ignored; it is written with zeros. -/
def encode (c : Cfg) : Instr → Encoded
  | .nop                 => .command ⟨commandWord Op.nop 0, 0, 0⟩
  | .portRd32 a0 a1      => .command ⟨commandWord Op.portRd32 0, a0, a1⟩
  | .portWr32 a0 a1      => .command ⟨commandWord Op.portWr32 0, a0, a1⟩
  | .portRd64 a0 a1      => .command ⟨commandWord Op.portRd64 0, a0, a1⟩
  | .twRead pin a0 a1    => .command ⟨commandWord Op.twRead pin, a0, a1⟩
  | .auxRead pin a0 a1   => .command ⟨commandWord Op.auxRead pin, a0, a1⟩
  | .acquire a0 a1       => .command ⟨commandWord Op.acquire 0, a0, a1⟩
  | .bringup a0 a1       => .command ⟨commandWord Op.bringup 0, a0, a1⟩
  | .decode a0 a1        => .command ⟨commandWord Op.decode 0, a0, a1⟩
  | .apply a0 a1         => .command ⟨commandWord Op.apply 0, a0, a1⟩
  | .modeQuery a0 a1     => .command ⟨commandWord Op.modeQuery 0, a0, a1⟩
  | .auxIndexWrite addr  => .auxHeader (auxHeader c .indexWrite addr)
  | .auxWriteProbe addr  => .auxHeader (auxHeader c .writeProbe addr)
  | .auxReadByte addr    => .auxHeader (auxHeader c .readByte addr)
  | .twIndexWriteCycle a => .twCommand (twIndexWriteWord c a)
  | .twReadCycle a       => .twCommand (twReadWord c a)

/-- The words of an opcode-table row whose bits are `w` (bit 0 the least significant bit of the first word; the operands,
where `nbits` reaches them, count on from bit 32): the command word and the two operands. -/
def tableWords (nbits w : Nat) : CmdWords :=
  let v := w % 2 ^ nbits
  ⟨BitVec.ofNat 32 v, BitVec.ofNat 64 (v / 2 ^ 32), BitVec.ofNat 64 (v / 2 ^ 96)⟩

/-- The instruction the decoder reads from an opcode-table word. The table mixes three kinds of word and a word does not say
its kind: it is read as a host command first, then as a request header, then as a two-wire cycle, with the default layout of
00_scope.md R10 that the table itself uses (log 13). -/
def decodeTableWord (nbits w : Nat) : Option Instr :=
  match decodeCommand (tableWords nbits w) with
  | .ok i => some i
  | .rejected _ =>
    match decodeAuxHeader Cfg.default (tableWords nbits w).cw with
    | .ok i => some i
    | .rejected _ =>
      match decodeTwCommand Cfg.default (tableWords nbits w).cw with
      | .ok i => some i
      | .rejected _ => none

end Sys2Proof
end

