-- ==== Sys2Proof/Machine/Operands.lean ====
section
/-! DEFINITION. The operand forms and operand checks of the commands (30_encoding.md R81, R83; 20_memory.md R72; 45 R211). -/

namespace Sys2Proof.Machine

/-- The register-window offset or 32-bit value of an operand: bits 31:0 (R81). -/
def lowHalf (a : U64) : U32 := zext 32 a

/-- Bits 63:32 of a 32-bit operand are 0 (R81, R83). -/
def highHalfZero (a : U64) : Bool := a >>> 32 == 0

/-- The offset in an operand is a multiple of `n` bytes (20_memory.md R72). -/
def offsetAligned (n : Nat) (a : U64) : Bool := (lowHalf a).toNat % n == 0

/-- `TW_PIN_FIRST <= pin <= TW_PIN_LAST` (41 R143). -/
def twPinOk (pin : U8) : Bool := decide (Config.twPinFirst ≤ pin) && decide (pin ≤ Config.twPinLast)

/-- `0 <= pin <= 5` (42 R166). -/
def auxPinOk (pin : U8) : Bool := decide (pin ≤ Config.auxPinLast)

/-- `framebuffer_base >= aperture_base` and the difference is below 2^32 (45 R211 (b)). -/
def apertureOk (fbBase apBase : U64) : Bool :=
  decide (apBase ≤ fbBase) && decide ((fbBase - apBase).toNat < 2 ^ 32)

/-- The registers of auxiliary pin `p`; there are six pins (10_state.md R34). -/
def auxPin? (c : Cfg) (p : U8) : Option AuxOffsets := c.auxPins[p.toNat]?

end Sys2Proof.Machine
end

