-- ==== Sys2Proof/Machine/State.lean ====
section
/-! DEFINITION. The state of the block (10_state.md) and its value after reset (R53). -/

namespace Sys2Proof.Machine

/-- The phases of the sequencer, the values of `pc` (10_state.md R22). -/
inductive Phase where
  | idle
  | ptRd32 | ptWr32 | ptRd64
  | twSel | twWaitIdle | twIdxData | twIdxCmd | twWaitIdx | twRdCmd | twWaitWord | twRdWord | twWaitStop | twCheck
  | axBegin | axLoadHdr | axLoadData | axStart | axPoll | axClear | axAfter | axFetch | axCheck
  | aqNextTw | aqNextAux | aqFail | aqDone
  | dcRun
  | apShift | apHtotal | apHblank | apHsync | apVtotal | apVblank | apVsync | apConfRd | apConfWr | apConfPoll
  | apPlOffset | apPlStride | apPlSize | apPlSurf | apPlCtl | apPublish | apGrow
  | mqRun
deriving DecidableEq, Repr

/-- The result codes (60_exceptions.md R241). Codes 7 and 12 to 255 are reserved and never written (93 U15). -/
inductive ResultCode where
  | ok
  | idNotFound
  | resourceExhaustion
  | publishFailed
  | notReady
  | illegalCmd
  | badOperand
  | transportUnavailable
  | busError
  | auxTransactionError
  | badHeader
deriving DecidableEq, Repr

/-- The number of a result code, the value of the `u8` register `RESULT` (R241). -/
def ResultCode.code : ResultCode → U8
  | .ok                   => 0
  | .idNotFound           => 1
  | .resourceExhaustion   => 2
  | .publishFailed        => 3
  | .notReady             => 4
  | .illegalCmd           => 5
  | .badOperand           => 6
  | .transportUnavailable => 8
  | .busError             => 9
  | .auxTransactionError  => 10
  | .badHeader            => 11

/-- `FOUND_TRANSPORT` (10_state.md R28). -/
inductive Transport where
  /-- 0: the two-wire bus. -/
  | twoWire
  /-- 1: the auxiliary channel. -/
  | aux
deriving DecidableEq, Repr

/-- The number of a transport (R28). -/
def Transport.code : Transport → U32
  | .twoWire => 0
  | .aux     => 1

/-- The Display Timing Set (10_state.md R29). -/
structure TimingSet where
  pixclkKhz  : U32
  hActive    : U32
  hSyncStart : U32
  hSyncEnd   : U32
  hTotal     : U32
  vActive    : U32
  vSyncStart : U32
  vSyncEnd   : U32
  vTotal     : U32
deriving DecidableEq, Repr

/-- The one pixel format (10_state.md R31; 30_encoding.md R111). -/
inductive PixelFormat where
  /-- `FMT_32BPP_PACKED`. -/
  | fmt32bppPacked
deriving DecidableEq, Repr

/-- The Mode/Plane State (10_state.md R31); its pixel format is a constant. -/
structure ModeState where
  hres   : U32
  vres   : U32
  stride : U32
  fbBase : U64
  fbSize : U32
deriving DecidableEq, Repr

/-- The record sent on the publish port (30_encoding.md R111). -/
structure PublishRecord where
  hres   : U32
  vres   : U32
  stride : U32
  base   : U64
  size   : U32
  format : PixelFormat
deriving DecidableEq, Repr

/-- The events of the port history (10_state.md R52). -/
inductive Event where
  /-- `RD32(off, value)`. -/
  | rd32 (off value : U32)
  /-- `RD64(off, value)`. -/
  | rd64 (off : U32) (value : U64)
  /-- `WR32(off, value)`. -/
  | wr32 (off value : U32)
  /-- `PUBLISH(record, answer)`. -/
  | publish (r : PublishRecord) (answer : PublishAnswer)
  /-- `GROW(answer)`. -/
  | grow (answer : GrowAnswer)
deriving DecidableEq, Repr

/-- The nine registers of the Display Timing Set, by name (10_state.md R29). -/
inductive TimingReg where
  | pixclkKhz | hActive | hSyncStart | hSyncEnd | hTotal | vActive | vSyncStart | vSyncEnd | vTotal
deriving DecidableEq, Repr

/-- The registers of the Mode/Plane State, by name (10_state.md R31). -/
inductive ModeReg where
  | hres | vres | stride | fbBase | fbSize | format
deriving DecidableEq, Repr

/-- The registers whose *host* column of 10_state.md R25 says none, `pc` (R22) and the mode-table entry, which the host sees
through `MODE_QUERY` only (R30). -/
inductive HiddenReg where
  | pc | cmdOp | cmdPin | arg0 | arg1 | pin | idx | polls | auxSt | auxOp | twShort | confTmp | grown | tblHres | tblVres
deriving DecidableEq, Repr

/-- The registers of the block by name, as a host may try to read them. -/
inductive HostReg where
  | busy | result | resultInfo | rdata | edidValid | timingValid | configured
  | edid (i : Fin 128)
  | foundTransport | foundPin
  | timing (r : TimingReg)
  | mode (r : ModeReg)
  | hidden (r : HiddenReg)
deriving DecidableEq, Repr

/-- What the host does next (10_state.md R20). The list of these in `State` is an input from outside (log 6). -/
inductive HostEvent where
  /-- Issue of the command `(cw, a0, a1)` (30_encoding.md R82). -/
  | issue (cw : U32) (a0 a1 : U64)
  /-- The `RESET` event (70_reset_and_hazards.md R270). -/
  | reset
  /-- A read of a register of the block (10_state.md R25 to R31). -/
  | read (r : HostReg)
  /-- The blit entry point (00_scope.md R7). -/
  | blit
  /-- The host takes no step; the block takes its own. -/
  | pass
  /-- `WAIT` of 30_encoding.md R84: the host takes no step until `BUSY = 0`. -/
  | wait
deriving DecidableEq, Repr

/-- The state. Registers unspecified at reset hold the values log 8 names. The last five fields are the model's own. -/
structure State where
  /-- The configuration; it never changes (R21). -/
  cfg : Cfg
  /-- The sequencer position (R22). -/
  pc : Phase
  /-- `BUSY` (R25). -/
  busy : Bool
  /-- `RESULT` (R25). -/
  result : ResultCode
  /-- `RESULT_INFO` (R25). -/
  resultInfo : U32
  /-- `RDATA` (R25; 40 R124). -/
  rdata : U64
  /-- `CMD_OP` (R25). -/
  cmdOp : U8
  /-- `CMD_PIN` (R25). -/
  cmdPin : U8
  /-- `ARG0` (R25). -/
  arg0 : U64
  /-- `ARG1` (R25). -/
  arg1 : U64
  /-- `PIN` (R25). -/
  pin : U8
  /-- `IDX` (R25). -/
  idx : U8
  /-- `POLLS` (R25). -/
  polls : U16
  /-- `AUX_ST` (R25). -/
  auxSt : U32
  /-- `AUX_OP` (R25). -/
  auxOp : AuxOp
  /-- `TW_SHORT` (R25). -/
  twShort : Bool
  /-- `CONF_TMP` (R25). -/
  confTmp : U32
  /-- `GROWN` (R25). -/
  grown : Bool
  /-- `EDID_VALID` (R26). -/
  edidValid : Bool
  /-- `TIMING_VALID` (R26). -/
  timingValid : Bool
  /-- `CONFIGURED` (R26). -/
  configured : Bool
  /-- `EDID[0..127]` (R27). -/
  edid : Vector U8 128
  /-- `FOUND_TRANSPORT` (R28). -/
  foundTransport : Transport
  /-- `FOUND_PIN` (R28). -/
  foundPin : U8
  /-- The Display Timing Set (R29). -/
  timing : TimingSet
  /-- `TBL_HRES` (R30). -/
  tblHres : U32
  /-- `TBL_VRES` (R30). -/
  tblVres : U32
  /-- The Mode/Plane State (R31). -/
  mode : ModeState
  /-- `HIST`, oldest event first: ghost state (R52). -/
  hist : List Event
  /-- The host's next moves (log 6). -/
  hostIn : List HostEvent
  /-- The device's next answers, one per read (log 4). -/
  devIn : List U64
  /-- The host's next answers to publish exchanges (log 5). -/
  publishIn : List PublishAnswer
  /-- The host's next answers to grow requests (log 5). -/
  growIn : List GrowAnswer
  /-- How many answers have been taken: the index of the next free value (log 4). -/
  freeCount : Nat
deriving DecidableEq, Repr

/-- No step of the block faults: every error class of 60_exceptions.md is a result code (a next state) or a hang (an infinite
execution), and where the spec gives no meaning the model refuses. Nobody raises a fault (log 22). -/
inductive Fault where
deriving DecidableEq, Repr

/-- Why the model gives a situation no step (`refuse`, 00_scope.md R16). Every refusal is safe: nothing is claimed there. -/
inductive Refusal where
  /-- Raised by `exec` for an instruction that has no meaning yet. -/
  | notModelled (mnemonic : String)
  /-- Raised by every step under an ill-formed configuration (00_scope.md R11, 93 U1). -/
  | illFormedCfg
  /-- Raised by the `PORT_` commands at a misaligned offset (20_memory.md R72, 93 U5). -/
  | misalignedOffset
  /-- Raised by `APPLY` with a framebuffer below the aperture or 4 GiB or more into it (45 R211 (b), 93 U7). -/
  | framebufferOutsideAperture
  /-- Raised by a host read of a register that holds no value for the host (93 U8). -/
  | unreadableRegister
  /-- Raised by the blit entry point, which has no rule here (00_scope.md R7). -/
  | blitEntryPoint
  /-- Raised by the auxiliary phases when `PIN` names no auxiliary pin; no run from reset gets there (log 15). -/
  | noSuchAuxPin
  /-- Raised by the attempt phases when `IDX` names no byte of the buffer; no run from reset gets there (log 15). -/
  | noSuchBufferByte
deriving DecidableEq, Repr

/-- The outcome of a step or of a meaning. -/
abbrev Outcome := Host.Outcome State Fault Refusal

/-- The state after reset (10_state.md R53). `RESULT = OK`, the mode table at its placeholder, every flag 0, `HIST` empty.
DESIGN CHOICE (log 8): a register R53 leaves unspecified is zero. PRESUMED (log 1): `cfg` holds the defaults of
00_scope.md R10. DESIGN CHOICE (logs 4, 5, 6): the inputs from outside are empty. -/
def State.reset : State where
  cfg            := Cfg.default
  pc             := .idle
  busy           := false
  result         := .ok
  resultInfo     := 0
  rdata          := 0
  cmdOp          := 0
  cmdPin         := 0
  arg0           := 0
  arg1           := 0
  pin            := 0
  idx            := 0
  polls          := 0
  auxSt          := 0
  auxOp          := .indexWrite
  twShort        := false
  confTmp        := 0
  grown          := false
  edidValid      := false
  timingValid    := false
  configured     := false
  edid           := Vector.replicate 128 0
  foundTransport := .twoWire
  foundPin       := 0
  timing         := ⟨0, 0, 0, 0, 0, 0, 0, 0, 0⟩
  tblHres        := Config.placeholderHres
  tblVres        := Config.placeholderVres
  mode           := ⟨0, 0, 0, 0, 0⟩
  hist           := []
  hostIn         := []
  devIn          := []
  publishIn      := []
  growIn         := []
  freeCount      := 0

end Sys2Proof.Machine
end

