-- ==== Sys2Proof/Machine/Ops.lean ====
section
/-! DEFINITION. The named operations: the Register Port (00_scope.md R15, 20_memory.md), the publish port (45 R225, R226), the end of
a command, which is the block's counterpart of taking an exception (00_scope.md R16, 60_exceptions.md R248), command issue
(30_encoding.md R82) and reset (70 R270). There is no return from an exception (60 R249). -/

namespace Sys2Proof.Machine

/-- Appends one event to `HIST` (20_memory.md R66). -/
def State.log (s : State) (e : Event) : State := { s with hist := s.hist ++ [e] }

/-- `pc <- PHASE` (00_scope.md R14). -/
def State.goto (s : State) (p : Phase) : State := { s with pc := p }

/-! ## The Register Port -/

/-- What the device answers to the next read, at offset `off`: the device script's next answer, and a free value where the
script is empty (10_state.md R50; log 4). -/
def State.deviceAnswer (s : State) (off : U32) : U64 :=
  match s.devIn with
  | v :: _ => v
  | []     => Config.freeRead s.freeCount off

/-- The answer has been taken: the next read gets a fresh one (20_memory.md R67). -/
def State.deviceAnswered (s : State) : State :=
  { s with devIn := s.devIn.tail, freeCount := s.freeCount + 1 }

/-- The value of `MemRead(off, 4)` (00_scope.md R15). -/
def State.read32Value (s : State) (off : U32) : U32 := zext 32 (s.deviceAnswer off)

/-- The state after `MemRead(off, 4)`: one event `RD32(off, v)` (20_memory.md R66). -/
def State.read32 (s : State) (off : U32) : State := s.deviceAnswered.log (.rd32 off (s.read32Value off))

/-- The value of `MemRead(off, 8)`: one atomic access (20_memory.md R64). -/
def State.read64Value (s : State) (off : U32) : U64 := s.deviceAnswer off

/-- The state after `MemRead(off, 8)`: one event `RD64(off, v)`. -/
def State.read64 (s : State) (off : U32) : State := s.deviceAnswered.log (.rd64 off (s.read64Value off))

/-- The state after `MemWrite(off, 4, v)`: one event `WR32(off, v)`; it always completes (20_memory.md R65). -/
def State.write32 (s : State) (off v : U32) : State := s.log (.wr32 off v)

/-! ## The publish port -/

/-- What the host answers to the next publish exchange (45 R225; log 5). -/
def State.publishAnswer (s : State) : PublishAnswer :=
  match s.publishIn with
  | a :: _ => a
  | []     => Config.freePublish s.freeCount

/-- The record the block sends (45 R225; 30_encoding.md R111). -/
def State.publishRecord (s : State) : PublishRecord :=
  { hres := s.mode.hres, vres := s.mode.vres, stride := s.mode.stride, base := s.mode.fbBase, size := s.mode.fbSize,
    format := .fmt32bppPacked }

/-- The state after one publish exchange: one event `PUBLISH(record, answer)`. -/
def State.publish (s : State) : State :=
  { s with publishIn := s.publishIn.tail, freeCount := s.freeCount + 1 }.log (.publish s.publishRecord s.publishAnswer)

/-- What the host answers to the next grow request (45 R226; log 5). -/
def State.growAnswer (s : State) : GrowAnswer :=
  match s.growIn with
  | a :: _ => a
  | []     => Config.freeGrow s.freeCount

/-- The state after one grow request: one event `GROW(answer)`. -/
def State.grow (s : State) : State :=
  { s with growIn := s.growIn.tail, freeCount := s.freeCount + 1 }.log (.grow s.growAnswer)

/-! ## The end of a command -/

/-- The end of a command, successful or by `raise` (00_scope.md R16, 60_exceptions.md R248): the result code, its extra word,
`BUSY <- 0`, `pc <- IDLE`; nothing else is saved or changed. -/
def State.finish (s : State) (code : ResultCode) (info : U32) : State :=
  { s with result := code, resultInfo := info, busy := false, pc := .idle }

/-! ## Command issue -/

/-- A command turned away at issue (30_encoding.md R82): `RESULT` and `RESULT_INFO = cw`, nothing else. -/
def State.reject (s : State) (code : ResultCode) (cw : U32) : State :=
  { s with result := code, resultInfo := cw }

/-- An accepted command (30_encoding.md R82): latched, `BUSY <- 1`, `pc` at its first phase. -/
def State.accept (s : State) (op pin : U8) (a0 a1 : U64) (first : Phase) : State :=
  { s with cmdOp := op, cmdPin := pin, arg0 := a0, arg1 := a1, busy := true, pc := first }

/-- Command issue while `BUSY = 1`: the command is dropped and no state changes (30_encoding.md R82). -/
def State.unlessBusy (s : State) (k : Outcome) : Outcome := if s.busy then .next s else k

/-- Issue of a `PORT_` command (40 R120): the operand check, then the alignment check. A defined code wins over `refuse`
(log 10). -/
def issuePort (op : U8) (operandsOk alignedOk : Bool) (a0 a1 : U64) (first : Phase) (s : State) : Outcome :=
  s.unlessBusy <|
    if operandsOk then
      if alignedOk then .next (s.accept op 0 a0 a1 first) else .refused .misalignedOffset
    else .next (s.reject .badOperand (commandWord op 0))

/-! ## Reset -/

/-- The `RESET` event (70_reset_and_hazards.md R270): every register as after reset, in one step, without a port access. The
configuration and what waits outside stay; `HIST` stays unless the parameter of U17 says otherwise (log 9). -/
def State.hostReset (s : State) : State :=
  { State.reset with
    cfg := s.cfg
    hist := if s.cfg.histKept then s.hist else []
    hostIn := s.hostIn
    devIn := s.devIn
    publishIn := s.publishIn
    growIn := s.growIn
    freeCount := s.freeCount }

end Sys2Proof.Machine
end

