-- ==== Sys2Proof/Machine/Flags.lean ====
section
/-! DEFINITION. The validity flags (10_state.md R26) and the status bits the block tests (30_encoding.md R87, R96). -/

namespace Sys2Proof.Machine

/-- The start of `ACQUIRE`, `BRINGUP`, `TW_READ` and `AUX_READ`: `EDID_VALID <- 0; TIMING_VALID <- 0` (10_state.md R26). -/
def State.clearValidity (s : State) : State := { s with edidValid := false, timingValid := false }

/-- The start of `DECODE`: `TIMING_VALID <- 0` (44 R190). -/
def State.clearTimingValid (s : State) : State := { s with timingValid := false }

/-- `MarkFound(t)` (43 R178). -/
def State.markFound (s : State) (t : Transport) : State :=
  { s with foundTransport := t, foundPin := s.pin, edidValid := true }

/-- What a *status* value says (41 R131). -/
inductive TwPoll where
  | busErr | ready | wait
deriving DecidableEq, Repr

/-- The classification of `TwPoll()`: the bus-error flag is tested first (41 R131, R132). -/
def twClassify (c : Cfg) (st : U32) : TwPoll :=
  if st &&& c.twStBusErr ≠ 0 then .busErr
  else if st &&& c.twStHwRdy ≠ 0 then .ready
  else .wait

/-- Bit 31 of *control*: the transaction is not finished (30_encoding.md R96). -/
def auxBusy (st : U32) : Bool := bitSet st 31

/-- Bit 28 (timeout-error) or bit 25 (receive-error) of *control* (30_encoding.md R96; 42 R160). -/
def auxError (st : U32) : Bool := bitSet st 28 || bitSet st 25

/-- The hardware-reports-active bit of the pipe-configuration register (45 R219). -/
def pipeActive (c : Cfg) (v : U32) : Bool := v &&& c.pipeconfActive != 0

end Sys2Proof.Machine
end

