-- ==== Sys2Proof/Machine/Acquirer.lean ====
section
/-! DEFINITION. The Identification Block Acquirer (43_acquirer.md): the end of an attempt, the next pin, the fallback, `ACQUIRE`,
`BRINGUP`. -/

namespace Sys2Proof.Machine

/-- The outcome of an attempt (41 R144, 42 R167). -/
inductive AttemptOutcome where
  | found | unavailable | busError | auxError | badHeader
deriving DecidableEq, Repr

/-- `code(outcome)` (43 R176). -/
def outcomeCode : AttemptOutcome → ResultCode
  | .found       => .ok
  | .unavailable => .transportUnavailable
  | .busError    => .busError
  | .auxError    => .auxTransactionError
  | .badHeader   => .badHeader

/-- `MarkFound` on success only (43 R176). -/
def State.recordOutcome (s : State) (t : Transport) : AttemptOutcome → State
  | .found => s.markFound t
  | _      => s

/-- Where `ACQUIRE` and `BRINGUP` go after an attempt (43 R176). -/
def afterAttempt (t : Transport) : AttemptOutcome → Phase
  | .found => .aqDone
  | _      => match t with
    | .twoWire => .aqNextTw
    | .aux     => .aqNextAux

/-- `AttemptEnd(outcome)` (43 R176): a single-attempt command surfaces the outcome, `ACQUIRE` and `BRINGUP` go on. -/
def attemptEnd (t : Transport) (o : AttemptOutcome) (s : State) : State :=
  if s.cmdOp = Op.twRead ∨ s.cmdOp = Op.auxRead then
    (s.recordOutcome t o).finish (outcomeCode o) (zext 32 s.idx)
  else
    (s.recordOutcome t o).goto (afterAttempt t o)

/-- Issue of `ACQUIRE` (R175). -/
def execAcquire (a0 a1 : U64) (s : State) : Outcome :=
  s.unlessBusy <| .next { (s.accept Op.acquire 0 a0 a1 .twSel).clearValidity with pin := Config.twPinFirst }

/-- Issue of `BRINGUP` (R183). -/
def execBringup (a0 a1 : U64) (s : State) : Outcome :=
  s.unlessBusy <| .next { (s.accept Op.bringup 0 a0 a1 .twSel).clearValidity with pin := Config.twPinFirst }

/-- Phase `AQ_NEXT_TW` (R177): the next two-wire pin, or the fallback to the auxiliary channel. -/
def phaseAqNextTw (s : State) : State :=
  if s.pin < Config.twPinLast then { s with pin := s.pin + 1 }.goto .twSel
  else { s with pin := 0 }.goto .axBegin

/-- Phase `AQ_NEXT_AUX` (R179). -/
def phaseAqNextAux (s : State) : State :=
  if s.pin < Config.auxPinLast then { s with pin := s.pin + 1 }.goto .axBegin
  else s.goto .aqFail

/-- Phase `AQ_FAIL` (R180): `raise IdentificationNotFound(0)`. -/
def phaseAqFail (s : State) : State := s.finish .idNotFound 0

/-- `RESULT_INFO` of a successful `ACQUIRE` or `BRINGUP` (R175, R181, R183). -/
def foundInfo (s : State) : U32 := (s.foundTransport.code <<< 8) ||| zext 32 s.foundPin

/-- Phase `AQ_DONE` (R181): `BRINGUP` goes on to the decoder. -/
def phaseAqDone (s : State) : State :=
  if s.cmdOp = Op.bringup then s.goto .dcRun else s.finish .ok (foundInfo s)

end Sys2Proof.Machine
end

