-- ==== Sys2Proof/Machine/AuxChannel.lean ====
section
/-! DEFINITION. The Auxiliary Channel Controller (42_aux_channel.md): `AUX_READ`, the three operations, and the phases. -/

namespace Sys2Proof.Machine

/-- Issue of `AUX_READ` (R166). -/
def execAuxRead (pin : U8) (a0 a1 : U64) (s : State) : Outcome :=
  s.unlessBusy <| .next <|
    if auxPinOk pin then { (s.accept Op.auxRead pin a0 a1 .axBegin).clearValidity with pin := pin }
    else s.reject .badOperand (commandWord Op.auxRead pin)

/-- A step that needs the registers of pin `x[PIN]` (10_state.md R34). A `PIN` above 5 has none; no run gets there (log 15). -/
def State.withAuxPin (s : State) (k : AuxOffsets → State) : Outcome :=
  match auxPin? s.cfg s.pin with
  | some a => .next (k a)
  | none   => .refused .noSuchAuxPin

/-- After the header: a byte read has no data byte (R152). -/
def afterHeader : AuxOp → Phase
  | .readByte => .axStart
  | _         => .axLoadData

/-- The start of a transaction, the step of phase `AX_LOAD_HDR` (R152): the header goes to *data1*. -/
def loadHeader (op : AuxOp) (addr : U16) (s : State) : Outcome :=
  s.withAuxPin fun a => { s.write32 a.data1 (auxHeader s.cfg op addr) with auxOp := op }.goto (afterHeader op)

/-- `AUX_INDEX_WRITE` (R163) starts its transaction. -/
def execAuxIndexWrite (addr : U16) (s : State) : Outcome := loadHeader .indexWrite addr s

/-- `AUX_WRITE_PROBE` (R164) starts its transaction. -/
def execAuxWriteProbe (addr : U16) (s : State) : Outcome := loadHeader .writeProbe addr s

/-- `AUX_READ_BYTE` (R165) starts its transaction. -/
def execAuxReadByte (addr : U16) (s : State) : Outcome := loadHeader .readByte addr s

/-- Phase `AX_BEGIN` (R159). -/
def phaseAxBegin (s : State) : State := { s with idx := 0, auxOp := .indexWrite }.goto .axLoadHdr

/-- Phase `AX_LOAD_HDR` (R152): the sequencer runs the operation that `AUX_OP` names, for `PERIPH_ADDR`. -/
def phaseAxLoadHdr (s : State) : Outcome :=
  match s.auxOp with
  | .indexWrite => execAuxIndexWrite (zext 16 s.cfg.periphAddr) s
  | .writeProbe => execAuxWriteProbe (zext 16 s.cfg.periphAddr) s
  | .readByte   => execAuxReadByte (zext 16 s.cfg.periphAddr) s

/-- Phase `AX_LOAD_DATA` (R153): the data byte `0x00`. -/
def phaseAxLoadData (s : State) : Outcome :=
  s.withAuxPin fun a => (s.write32 a.data2 (auxDataWord 0)).goto .axStart

/-- Phase `AX_START` (R154). -/
def phaseAxStart (s : State) : Outcome :=
  s.withAuxPin fun a => { s.write32 a.ctl (auxStart s.cfg (auxSize s.auxOp)) with polls := 0 }.goto .axPoll

/-- Whether a poll ends the wait: busy has cleared, or the budget is used up (R155). -/
def auxPollDone (st : U32) (polls : U16) : Bool := !(auxBusy st) || polls == Config.auxPollBudget

/-- Phase `AX_POLL` (R155): one read of *control*; at most 16384 of them a transaction. -/
def phaseAxPoll (s : State) : Outcome :=
  s.withAuxPin fun a =>
    let st := s.read32Value a.ctl
    { s.read32 a.ctl with auxSt := st, polls := s.polls + 1 }.goto
      (if auxPollDone st (s.polls + 1) then .axClear else .axPoll)

/-- Phase `AX_CLEAR` (R157). -/
def phaseAxClear (s : State) : Outcome :=
  s.withAuxPin fun a => (s.write32 a.ctl (auxClear s.auxSt)).goto .axAfter

/-- Phase `AX_AFTER` (R160): only the write probe's status is examined. -/
def phaseAxAfter (s : State) : State :=
  match s.auxOp with
  | .indexWrite => { s with auxOp := .writeProbe }.goto .axLoadHdr
  | .writeProbe =>
    if auxError s.auxSt then attemptEnd .aux .auxError s
    else { s with auxOp := .readByte }.goto .axLoadHdr
  | .readByte => s.goto .axFetch

/-- Phase `AX_FETCH` (R161). An `IDX` above 127 would name a byte the buffer does not have; no run gets there (log 15). -/
def phaseAxFetch (s : State) : Outcome :=
  if s.idx.toNat < 128 then
    s.withAuxPin fun a =>
      let w := s.read32Value a.data1
      { s.read32 a.data1 with edid := s.edid.setIfInBounds s.idx.toNat (auxReplyByte w), idx := s.idx + 1 }.goto
        (if s.idx + 1 = 128 then .axCheck else .axLoadHdr)
  else .refused .noSuchBufferByte

/-- Phase `AX_CHECK` (R162). -/
def phaseAxCheck (s : State) : State :=
  attemptEnd .aux (if magic s.edid then .found else .badHeader) s

end Sys2Proof.Machine
end

