-- ==== Sys2Proof/Machine/PortCommands.lean ====
section
/-! DEFINITION. The Register Port commands (40_register_port.md). -/

namespace Sys2Proof.Machine

/-- Issue of `PORT_RD32` (R121). -/
def execPortRd32 (a0 a1 : U64) (s : State) : Outcome :=
  issuePort Op.portRd32 (highHalfZero a0) (offsetAligned 4 a0) a0 a1 .ptRd32 s

/-- Issue of `PORT_WR32` (R122): both operands are 32-bit. -/
def execPortWr32 (a0 a1 : U64) (s : State) : Outcome :=
  issuePort Op.portWr32 (highHalfZero a0 && highHalfZero a1) (offsetAligned 4 a0) a0 a1 .ptWr32 s

/-- Issue of `PORT_RD64` (R123). -/
def execPortRd64 (a0 a1 : U64) (s : State) : Outcome :=
  issuePort Op.portRd64 (highHalfZero a0) (offsetAligned 8 a0) a0 a1 .ptRd64 s

/-- Phase `PT_RD32` (R121). -/
def phasePtRd32 (s : State) : State :=
  let off := lowHalf s.arg0
  let v := s.read32Value off
  { s.read32 off with rdata := zext 64 v }.finish .ok v

/-- Phase `PT_WR32` (R122). -/
def phasePtWr32 (s : State) : State :=
  (s.write32 (lowHalf s.arg0) (lowHalf s.arg1)).finish .ok 0

/-- Phase `PT_RD64` (R123). -/
def phasePtRd64 (s : State) : State :=
  let off := lowHalf s.arg0
  let v := s.read64Value off
  { s.read64 off with rdata := v }.finish .ok (lowHalf v)

end Sys2Proof.Machine
end

