-- ==== Sys2Proof/Machine/Sequencer.lean ====
section
/-! DEFINITION. The Display-Pipe Sequencer (45_sequencer.md): `APPLY`, `MODE_QUERY`, `NOP` and their phases. -/

namespace Sys2Proof.Machine

/-- `NOP` (R235): `RESULT <- OK; RESULT_INFO <- 0`, and nothing else (log 11). -/
def execNop (s : State) : Outcome := s.unlessBusy <| .next { s with result := .ok, resultInfo := 0 }

/-- Issue of `APPLY` (R210, R211). A defined code wins over `refuse` (log 10). Its phases make `14 + k` port accesses (log 25). -/
def execApply (a0 a1 : U64) (s : State) : Outcome :=
  s.unlessBusy <|
    if s.timingValid then
      if apertureOk a0 a1 then .next { s.accept Op.apply 0 a0 a1 .apShift with grown := false }
      else .refused .framebufferOutsideAperture
    else .next (s.reject .notReady (commandWord Op.apply 0))

/-- Issue of `MODE_QUERY` (R233). -/
def execModeQuery (a0 a1 : U64) (s : State) : Outcome :=
  s.unlessBusy <| .next (s.accept Op.modeQuery 0 a0 a1 .mqRun)

/-- A phase that is one `MemWrite` and a move to the next phase. -/
def writePhase (s : State) (off v : U32) (next : Phase) : State := (s.write32 off v).goto next

/-- Phase `AP_SHIFT` (R212). -/
def phaseApShift (s : State) : State := writePhase s s.cfg.syncShiftOff 0 .apHtotal

/-- Phase `AP_HTOTAL` (R213). -/
def phaseApHtotal (s : State) : State :=
  writePhase s s.cfg.htotalOff (timingWord s.timing.hActive s.timing.hTotal) .apHblank

/-- Phase `AP_HBLANK` (R213): the same word as the total register. -/
def phaseApHblank (s : State) : State :=
  writePhase s s.cfg.hblankOff (timingWord s.timing.hActive s.timing.hTotal) .apHsync

/-- Phase `AP_HSYNC` (R213). -/
def phaseApHsync (s : State) : State :=
  writePhase s s.cfg.hsyncOff (timingWord s.timing.hSyncStart s.timing.hSyncEnd) .apVtotal

/-- Phase `AP_VTOTAL` (R213). -/
def phaseApVtotal (s : State) : State :=
  writePhase s s.cfg.vtotalOff (timingWord s.timing.vActive s.timing.vTotal) .apVblank

/-- Phase `AP_VBLANK` (R213): the same word as the total register. -/
def phaseApVblank (s : State) : State :=
  writePhase s s.cfg.vblankOff (timingWord s.timing.vActive s.timing.vTotal) .apVsync

/-- Phase `AP_VSYNC` (R213). -/
def phaseApVsync (s : State) : State :=
  writePhase s s.cfg.vsyncOff (timingWord s.timing.vSyncStart s.timing.vSyncEnd) .apConfRd

/-- Phase `AP_CONF_RD` (R217). -/
def phaseApConfRd (s : State) : State :=
  { s.read32 s.cfg.pipeconfOff with confTmp := s.read32Value s.cfg.pipeconfOff }.goto .apConfWr

/-- Phase `AP_CONF_WR` (R218). -/
def phaseApConfWr (s : State) : State :=
  writePhase s s.cfg.pipeconfOff (s.confTmp ||| s.cfg.pipeconfEnable) .apConfPoll

/-- Phase `AP_CONF_POLL` (R219): unbounded. -/
def phaseApConfPoll (s : State) : State :=
  (s.read32 s.cfg.pipeconfOff).goto
    (if pipeActive s.cfg (s.read32Value s.cfg.pipeconfOff) then .apPlOffset else .apConfPoll)

/-- Phase `AP_PL_OFFSET` (R220). -/
def phaseApPlOffset (s : State) : State := writePhase s s.cfg.planeOffsetOff 0 .apPlStride

/-- Phase `AP_PL_STRIDE` (R221). -/
def phaseApPlStride (s : State) : State :=
  writePhase s s.cfg.planeStrideOff (planeStrideWord s.timing.hActive) .apPlSize

/-- Phase `AP_PL_SIZE` (R221). -/
def phaseApPlSize (s : State) : State :=
  writePhase s s.cfg.planeSizeOff (timingWord s.timing.hActive s.timing.vActive) .apPlSurf

/-- Phase `AP_PL_SURF` (R222). -/
def phaseApPlSurf (s : State) : State := writePhase s s.cfg.planeSurfOff (surfaceWord s.arg0 s.arg1) .apPlCtl

/-- The Mode/Plane State of a timing set and a framebuffer base (R224): the base is the absolute one. -/
def modeOf (t : TimingSet) (fbBase : U64) : ModeState where
  hres   := t.hActive
  vres   := t.vActive
  stride := stride t.hActive
  fbBase := fbBase
  fbSize := stride t.hActive * t.vActive

/-- Phase `AP_PL_CTL` (R223, R224). -/
def phaseApPlCtl (s : State) : State :=
  { s.write32 s.cfg.planeCtlOff s.cfg.planeCtlValue with mode := modeOf s.timing s.arg0 }.goto .apPublish

/-- Phase `AP_PUBLISH` (R225): grow once at most, any other failure is fatal. -/
def phaseApPublish (s : State) : State :=
  match s.publishAnswer with
  | .ok       => { s.publish with configured := true }.finish .ok s.mode.stride
  | .tooSmall => if s.grown then s.publish.finish .publishFailed 0 else s.publish.goto .apGrow
  | .error    => s.publish.finish .publishFailed 0

/-- Phase `AP_GROW` (R226). -/
def phaseApGrow (s : State) : State :=
  match s.growAnswer with
  | .ok   => { s.grow with grown := true }.goto .apPublish
  | .fail => { s.grow with grown := true }.finish .resourceExhaustion 0

/-- `RESULT_INFO` of `MODE_QUERY`: the mode table packed (R233). -/
def modeTableInfo (s : State) : U32 := (s.tblHres <<< 16) ||| (s.tblVres &&& 0xFFFF)

/-- Phase `MQ_RUN` (R233). -/
def phaseMqRun (s : State) : State := s.finish .ok (modeTableInfo s)

end Sys2Proof.Machine
end

