-- ==== Sys2Proof/Machine/TimingDecoder.lean ====
section
/-! DEFINITION. The Timing Descriptor Decoder (44_decoder.md; 30_encoding.md R98, R99): `DECODE` and phase `DC_RUN`. -/

namespace Sys2Proof.Machine

/-- The nine fields of a detailed timing descriptor (30_encoding.md R99). -/
structure DescriptorFields where
  pixclkRaw  : U32
  hActive    : U32
  hBlank     : U32
  vActive    : U32
  vBlank     : U32
  hSyncOff   : U32
  hSyncPulse : U32
  vSyncOff   : U32
  vSyncPulse : U32
deriving DecidableEq, Repr

/-- The twelve descriptor bytes the block reads (30_encoding.md R98). -/
structure DescriptorBytes where
  d0  : U8
  d1  : U8
  d2  : U8
  d3  : U8
  d4  : U8
  d5  : U8
  d6  : U8
  d7  : U8
  d8  : U8
  d9  : U8
  d10 : U8
  d11 : U8
deriving DecidableEq, Repr

/-- Byte `k` of the descriptor, `EDID[Cfg.DTD_OFF + k]`. Under a well-formed configuration the index is always inside the
buffer (`DTD_OFF <= 110`). -/
def descriptorByte (c : Cfg) (b : Vector U8 128) (k : Nat) : U8 := (b[c.dtdOff + k]?).getD 0

/-- `D[0..11]` (30_encoding.md R98). -/
def descriptorBytes (c : Cfg) (b : Vector U8 128) : DescriptorBytes where
  d0  := descriptorByte c b 0
  d1  := descriptorByte c b 1
  d2  := descriptorByte c b 2
  d3  := descriptorByte c b 3
  d4  := descriptorByte c b 4
  d5  := descriptorByte c b 5
  d6  := descriptorByte c b 6
  d7  := descriptorByte c b 7
  d8  := descriptorByte c b 8
  d9  := descriptorByte c b 9
  d10 := descriptorByte c b 10
  d11 := descriptorByte c b 11

/-- A low part and the high bits above it: `zext_32(lo) | (zext_32(hi) << n)`. -/
def joinField {a b : Nat} (lo : BitVec a) (hi : BitVec b) (n : Nat) : U32 := zext 32 lo ||| (zext 32 hi <<< n)

/-- Field assembly (30_encoding.md R99; 44 R193): active and blank 12 bits, horizontal sync 10, vertical sync 6. The byte
positions are general knowledge fixed by the spec (K12; log 18). -/
def unpackDescriptor (d : DescriptorBytes) : DescriptorFields where
  pixclkRaw  := joinField d.d0 d.d1 8
  hActive    := joinField d.d2 (bits 7 4 d.d4) 8
  hBlank     := joinField d.d3 (bits 3 0 d.d4) 8
  vActive    := joinField d.d5 (bits 7 4 d.d7) 8
  vBlank     := joinField d.d6 (bits 3 0 d.d7) 8
  hSyncOff   := joinField d.d8 (bits 7 6 d.d11) 8
  hSyncPulse := joinField d.d9 (bits 5 4 d.d11) 8
  vSyncOff   := joinField (bits 7 4 d.d10) (bits 3 2 d.d11) 4
  vSyncPulse := joinField (bits 3 0 d.d10) (bits 1 0 d.d11) 4

/-- The inverse layout (44 R198); the pixel clock by 30_encoding.md R98. -/
def packDescriptor (f : DescriptorFields) : DescriptorBytes where
  d0  := bits 7 0 f.pixclkRaw
  d1  := bits 15 8 f.pixclkRaw
  d2  := bits 7 0 f.hActive
  d3  := bits 7 0 f.hBlank
  d4  := bits 11 8 f.hActive ++ bits 11 8 f.hBlank
  d5  := bits 7 0 f.vActive
  d6  := bits 7 0 f.vBlank
  d7  := bits 11 8 f.vActive ++ bits 11 8 f.vBlank
  d8  := bits 7 0 f.hSyncOff
  d9  := bits 7 0 f.hSyncPulse
  d10 := bits 3 0 f.vSyncOff ++ bits 3 0 f.vSyncPulse
  d11 := bits 9 8 f.hSyncOff ++ bits 9 8 f.hSyncPulse ++ bits 5 4 f.vSyncOff ++ bits 5 4 f.vSyncPulse

/-- The Display Timing Set of a descriptor (44 R194, R195). -/
def timingOf (f : DescriptorFields) : TimingSet where
  pixclkKhz  := f.pixclkRaw * 10
  hActive    := f.hActive
  hSyncStart := f.hActive + f.hSyncOff
  hSyncEnd   := f.hActive + f.hSyncOff + f.hSyncPulse
  hTotal     := f.hActive + f.hBlank
  vActive    := f.vActive
  vSyncStart := f.vActive + f.vSyncOff
  vSyncEnd   := f.vActive + f.vSyncOff + f.vSyncPulse
  vTotal     := f.vActive + f.vBlank

/-- `decode(block)` (44 R186): a pure function of the block. -/
def decodeTiming (c : Cfg) (b : Vector U8 128) : TimingSet := timingOf (unpackDescriptor (descriptorBytes c b))

/-- Issue of `DECODE` (R190, R191). -/
def execDecode (a0 a1 : U64) (s : State) : Outcome :=
  s.unlessBusy <| .next <|
    if s.edidValid then (s.accept Op.decode 0 a0 a1 .dcRun).clearTimingValid
    else s.reject .notReady (commandWord Op.decode 0)

/-- A resolution packed into `RESULT_INFO` as `DECODE` packs it (44 R190). -/
def resolutionInfo (h v : U32) : U32 := (h <<< 16) ||| v

/-- The writes of `DC_RUN` (44 R192, R194, R195, R199). -/
def State.writeTiming (s : State) : State :=
  let t := decodeTiming s.cfg s.edid
  { s with timing := t, tblHres := t.hActive, tblVres := t.vActive, timingValid := true }

/-- Phase `DC_RUN` (44 R192): `RESULT_INFO` as the running command's rule says. -/
def phaseDcRun (s : State) : State :=
  let s' := s.writeTiming
  s'.finish .ok (if s.cmdOp = Op.bringup then foundInfo s else resolutionInfo s'.timing.hActive s'.timing.vActive)

end Sys2Proof.Machine
end

