-- ==== Sys2Proof/Machine/TwoWire.lean ====
section
/-! DEFINITION. The Two-Wire Bus Controller (41_two_wire.md): `TW_READ`, the two cycles, and the phases of an attempt. -/

namespace Sys2Proof.Machine

/-- Issue of `TW_READ` (R143). -/
def execTwRead (pin : U8) (a0 a1 : U64) (s : State) : Outcome :=
  s.unlessBusy <| .next <|
    if twPinOk pin then { (s.accept Op.twRead pin a0 a1 .twSel).clearValidity with pin := pin }
    else s.reject .badOperand (commandWord Op.twRead pin)

/-- `TW_INDEX_WRITE_CYCLE`: the step of phase `TW_IDX_CMD` (R136). -/
def execTwIndexWriteCycle (addr : BitVec 7) (s : State) : Outcome :=
  .next <| (s.write32 s.cfg.twCommandOff (twIndexWriteWord s.cfg addr)).goto .twWaitIdx

/-- `TW_READ_CYCLE`: the step of phase `TW_RD_CMD` (R138). -/
def execTwReadCycle (addr : BitVec 7) (s : State) : Outcome :=
  .next <| (s.write32 s.cfg.twCommandOff (twReadWord s.cfg addr)).goto .twWaitWord

/-- The value of `TwPoll()`: one read of *status*, classified (R131). -/
def State.twPoll (s : State) : TwPoll := twClassify s.cfg (s.read32Value s.cfg.twStatusOff)

/-- The state after `TwPoll()`. -/
def State.twPolled (s : State) : State := s.read32 s.cfg.twStatusOff

/-- Phase `TW_SEL` (R133). -/
def phaseTwSel (s : State) : State :=
  ({ s with idx := 0, twShort := false }.write32 s.cfg.twSelectOff (twSelectWord s.pin)).goto .twWaitIdle

/-- Phase `TW_WAIT_IDLE` (R134): unbounded. -/
def phaseTwWaitIdle (s : State) : State :=
  match s.twPoll with
  | .busErr => attemptEnd .twoWire .unavailable s.twPolled
  | .ready  => s.twPolled.goto .twIdxData
  | .wait   => s.twPolled.goto .twWaitIdle

/-- Phase `TW_IDX_DATA` (R135): the index byte 0. -/
def phaseTwIdxData (s : State) : State := (s.write32 s.cfg.twDataOff 0).goto .twIdxCmd

/-- Phase `TW_WAIT_IDX` (R137): unbounded; ready and bus error alike go on. -/
def phaseTwWaitIdx (s : State) : State :=
  match s.twPoll with
  | .busErr => s.twPolled.goto .twRdCmd
  | .ready  => s.twPolled.goto .twRdCmd
  | .wait   => s.twPolled.goto .twWaitIdx

/-- Phase `TW_WAIT_WORD` (R139): unbounded; a bus error stops the read early. -/
def phaseTwWaitWord (s : State) : State :=
  match s.twPoll with
  | .busErr => { s.twPolled with twShort := true }.goto .twWaitStop
  | .ready  => s.twPolled.goto .twRdWord
  | .wait   => s.twPolled.goto .twWaitWord

/-- The four bytes of a *data* word stored at `i` (R140; 20_memory.md R69). -/
def storeWord (b : Vector U8 128) (i : Nat) (w : U32) : Vector U8 128 :=
  (((b.setIfInBounds i (bits 7 0 w)).setIfInBounds (i + 1) (bits 15 8 w)).setIfInBounds (i + 2) (bits 23 16 w)).setIfInBounds
    (i + 3) (bits 31 24 w)

/-- Phase `TW_RD_WORD` (R140). An `IDX` above 124 would name bytes the buffer does not have; no run gets there (log 15). -/
def phaseTwRdWord (s : State) : Outcome :=
  if s.idx.toNat + 4 ≤ 128 then
    let w := s.read32Value s.cfg.twDataOff
    .next <| { s.read32 s.cfg.twDataOff with edid := storeWord s.edid s.idx.toNat w, idx := s.idx + 4 }.goto
      (if s.idx.toNat + 4 ≥ 128 then .twWaitStop else .twWaitWord)
  else .refused .noSuchBufferByte

/-- Phase `TW_WAIT_STOP` (R141): unbounded; ready and bus error alike go on. -/
def phaseTwWaitStop (s : State) : State :=
  match s.twPoll with
  | .busErr => s.twPolled.goto .twCheck
  | .ready  => s.twPolled.goto .twCheck
  | .wait   => s.twPolled.goto .twWaitStop

/-- The outcome of a finished two-wire read (R142): a short read wins over the header test (60 R247). -/
def twOutcome (s : State) : AttemptOutcome :=
  if s.twShort = true ∨ s.idx.toNat < 128 then .busError
  else if magic s.edid then .found
  else .badHeader

/-- Phase `TW_CHECK` (R142). -/
def phaseTwCheck (s : State) : State := attemptEnd .twoWire (twOutcome s) s

end Sys2Proof.Machine
end

