-- ==== Sys2Proof/Machine/Dispatch.lean ====
section
/-! DEFINITION. One arm per instruction. For a host command, `exec` is its issue (30_encoding.md R82): what the rest of the command
does is the steps of its phases (log 12). For a word the block itself writes, `exec` is the step that writes it. -/

namespace Sys2Proof.Machine

def exec (i : Instr) (s : State) : Host.Outcome State Fault Refusal :=
  match i with
  | .nop => Sys2Proof.Machine.execNop s
  | .portRd32 a0 a1 => Sys2Proof.Machine.execPortRd32 a0 a1 s
  | .portWr32 a0 a1 => Sys2Proof.Machine.execPortWr32 a0 a1 s
  | .portRd64 a0 a1 => Sys2Proof.Machine.execPortRd64 a0 a1 s
  | .twRead pin a0 a1 => Sys2Proof.Machine.execTwRead pin a0 a1 s
  | .auxRead pin a0 a1 => Sys2Proof.Machine.execAuxRead pin a0 a1 s
  | .acquire a0 a1 => Sys2Proof.Machine.execAcquire a0 a1 s
  | .bringup a0 a1 => Sys2Proof.Machine.execBringup a0 a1 s
  | .decode a0 a1 => Sys2Proof.Machine.execDecode a0 a1 s
  | .apply a0 a1 => Sys2Proof.Machine.execApply a0 a1 s
  | .modeQuery a0 a1 => Sys2Proof.Machine.execModeQuery a0 a1 s
  | .auxIndexWrite addr => Sys2Proof.Machine.execAuxIndexWrite addr s
  | .auxWriteProbe addr => Sys2Proof.Machine.execAuxWriteProbe addr s
  | .auxReadByte addr => Sys2Proof.Machine.execAuxReadByte addr s
  | .twIndexWriteCycle addr => Sys2Proof.Machine.execTwIndexWriteCycle addr s
  | .twReadCycle addr => Sys2Proof.Machine.execTwReadCycle addr s

end Sys2Proof.Machine
end

