-- ==== Sys2Proof/Machine/Phases.lean ====
section
/-! DEFINITION. The block's own step: what the rule of its current phase says (10_state.md R23). -/

namespace Sys2Proof.Machine

/-- Phase `TW_IDX_CMD` (41 R136): the sequencer runs the index-write cycle for `PERIPH_ADDR`. -/
def phaseTwIdxCmd (s : State) : Outcome := execTwIndexWriteCycle s.cfg.periphAddr s

/-- Phase `TW_RD_CMD` (41 R138): the sequencer runs the read cycle for `PERIPH_ADDR`. -/
def phaseTwRdCmd (s : State) : Outcome := execTwReadCycle s.cfg.periphAddr s

/-- One step of the block (10_state.md R23). In `IDLE` it has none of its own: the state stays (log 7). The phases of `APPLY` are
those of R212 to R226, one access each, so that an `APPLY` with `k` pipe polls makes `14 + k` port accesses; where R227, R229, R290
and T-A4 count one more, the phases are followed (log 25). -/
def blockStep (s : State) : Outcome :=
  match s.pc with
  | .idle       => .next s
  | .ptRd32     => .next (phasePtRd32 s)
  | .ptWr32     => .next (phasePtWr32 s)
  | .ptRd64     => .next (phasePtRd64 s)
  | .twSel      => .next (phaseTwSel s)
  | .twWaitIdle => .next (phaseTwWaitIdle s)
  | .twIdxData  => .next (phaseTwIdxData s)
  | .twIdxCmd   => phaseTwIdxCmd s
  | .twWaitIdx  => .next (phaseTwWaitIdx s)
  | .twRdCmd    => phaseTwRdCmd s
  | .twWaitWord => .next (phaseTwWaitWord s)
  | .twRdWord   => phaseTwRdWord s
  | .twWaitStop => .next (phaseTwWaitStop s)
  | .twCheck    => .next (phaseTwCheck s)
  | .axBegin    => .next (phaseAxBegin s)
  | .axLoadHdr  => phaseAxLoadHdr s
  | .axLoadData => phaseAxLoadData s
  | .axStart    => phaseAxStart s
  | .axPoll     => phaseAxPoll s
  | .axClear    => phaseAxClear s
  | .axAfter    => .next (phaseAxAfter s)
  | .axFetch    => phaseAxFetch s
  | .axCheck    => .next (phaseAxCheck s)
  | .aqNextTw   => .next (phaseAqNextTw s)
  | .aqNextAux  => .next (phaseAqNextAux s)
  | .aqFail     => .next (phaseAqFail s)
  | .aqDone     => .next (phaseAqDone s)
  | .dcRun      => .next (phaseDcRun s)
  | .apShift    => .next (phaseApShift s)
  | .apHtotal   => .next (phaseApHtotal s)
  | .apHblank   => .next (phaseApHblank s)
  | .apHsync    => .next (phaseApHsync s)
  | .apVtotal   => .next (phaseApVtotal s)
  | .apVblank   => .next (phaseApVblank s)
  | .apVsync    => .next (phaseApVsync s)
  | .apConfRd   => .next (phaseApConfRd s)
  | .apConfWr   => .next (phaseApConfWr s)
  | .apConfPoll => .next (phaseApConfPoll s)
  | .apPlOffset => .next (phaseApPlOffset s)
  | .apPlStride => .next (phaseApPlStride s)
  | .apPlSize   => .next (phaseApPlSize s)
  | .apPlSurf   => .next (phaseApPlSurf s)
  | .apPlCtl    => .next (phaseApPlCtl s)
  | .apPublish  => .next (phaseApPublish s)
  | .apGrow     => .next (phaseApGrow s)
  | .mqRun      => .next (phaseMqRun s)

end Sys2Proof.Machine
end

