-- ==== Sys2Proof/Machine/HostPort.lean ====
section
/-! DEFINITION. The host's steps (10_state.md R20): command issue (30_encoding.md R82), register reads (10_state.md R25 to R31), reset,
and the step of the whole machine. -/

namespace Sys2Proof.Machine

/-- Command issue (30_encoding.md R82, R83; 60_exceptions.md R246): dropped while busy, `ILLEGAL_CMD` for a word that is no
command, else the command's own issue. -/
def commandIssue (w : CmdWords) (s : State) : Outcome :=
  match decodeCommand w with
  | .ok i       => exec i s
  | .rejected _ => s.unlessBusy <| .next (s.reject .illegalCmd w.cw)

/-- What a host read returns: a word, or the constant pixel format. -/
inductive HostValue where
  | word (v : U64)
  | format (f : PixelFormat)
deriving DecidableEq, Repr

/-- A `u1` register as a word. -/
def flagWord (b : Bool) : U64 := if b then 1 else 0

/-- The registers of the Display Timing Set by name (10_state.md R29). -/
def timingReg (t : TimingSet) : TimingReg → U32
  | .pixclkKhz  => t.pixclkKhz
  | .hActive    => t.hActive
  | .hSyncStart => t.hSyncStart
  | .hSyncEnd   => t.hSyncEnd
  | .hTotal     => t.hTotal
  | .vActive    => t.vActive
  | .vSyncStart => t.vSyncStart
  | .vSyncEnd   => t.vSyncEnd
  | .vTotal     => t.vTotal

/-- The registers of the Mode/Plane State by name (10_state.md R31). -/
def modeReg (m : ModeState) : ModeReg → HostValue
  | .hres   => .word (zext 64 m.hres)
  | .vres   => .word (zext 64 m.vres)
  | .stride => .word (zext 64 m.stride)
  | .fbBase => .word m.fbBase
  | .fbSize => .word (zext 64 m.fbSize)
  | .format => .format .fmt32bppPacked

/-- Whether the host may read a register now (10_state.md R25 to R31; 93 U8). -/
def readable (s : State) : HostReg → Bool
  | .busy           => true
  | .result         => !s.busy
  | .resultInfo     => !s.busy
  | .rdata          => !s.busy
  | .edidValid      => !s.busy
  | .timingValid    => !s.busy
  | .configured     => !s.busy
  | .edid _         => !s.busy && s.edidValid
  | .foundTransport => !s.busy && s.edidValid
  | .foundPin       => !s.busy && s.edidValid
  | .timing _       => !s.busy && s.timingValid
  | .mode _         => !s.busy && s.configured
  | .hidden _       => false

/-- What a register holds, for a register the host can ever read. -/
def registerValue (s : State) : HostReg → Option HostValue
  | .busy           => some (.word (flagWord s.busy))
  | .result         => some (.word (zext 64 s.result.code))
  | .resultInfo     => some (.word (zext 64 s.resultInfo))
  | .rdata          => some (.word s.rdata)
  | .edidValid      => some (.word (flagWord s.edidValid))
  | .timingValid    => some (.word (flagWord s.timingValid))
  | .configured     => some (.word (flagWord s.configured))
  | .edid i         => some (.word (zext 64 s.edid[i.val]))
  | .foundTransport => some (.word (zext 64 s.foundTransport.code))
  | .foundPin       => some (.word (zext 64 s.foundPin))
  | .timing r       => some (.word (zext 64 (timingReg s.timing r)))
  | .mode r         => some (modeReg s.mode r)
  | .hidden _       => none

/-- What a host read returns; none where the spec gives the register no value for the host (93 U8). -/
def hostRead (s : State) (r : HostReg) : Option HostValue :=
  if readable s r then registerValue s r else none

/-- A host read as a step: it changes nothing, and is refused where the register holds no value (93 U8). -/
def readStep (r : HostReg) (s : State) : Outcome :=
  match hostRead s r with
  | some _ => .next s
  | none   => .refused .unreadableRegister

/-- One step of the machine under a well-formed configuration: the host's next move where it makes one, else the block's. -/
def hostOrBlockStep (s : State) : Outcome :=
  match s.hostIn with
  | []                       => blockStep s
  | .pass :: rest            => blockStep { s with hostIn := rest }
  | .wait :: rest            => if s.busy then blockStep s else .next { s with hostIn := rest }
  | .issue cw a0 a1 :: rest  => commandIssue ⟨cw, a0, a1⟩ { s with hostIn := rest }
  | .reset :: rest           => .next { s with hostIn := rest }.hostReset
  | .read r :: rest          => readStep r { s with hostIn := rest }
  | .blit :: _               => .refused .blitEntryPoint

/-- One step of the machine: refused under an ill-formed configuration (00_scope.md R11). -/
def machineStep (s : State) : Outcome :=
  if s.cfg.wf then hostOrBlockStep s else .refused .illFormedCfg

end Sys2Proof.Machine
end

