-- ==== Sys2Proof/Machine/Place.lean ====
section
/-! DEFINITION. Placing an instruction where the machine takes its next one from (log 12): a host command is the host's next move;
an auxiliary operation or a two-wire cycle is what the sequencer runs in its phase. -/

namespace Sys2Proof.Machine

/-- The host's next move is the issue of this command. -/
def State.placeCommand (s : State) (w : CmdWords) : State :=
  { s with hostIn := .issue w.cw w.a0 w.a1 :: s.hostIn }

/-- The block's next step is phase `p`, for the peripheral address `addr`: a command is running and the host takes no step. -/
def State.placePhase (s : State) (p : Phase) (addr : BitVec 7) : State :=
  { s with pc := p, busy := true, cfg := { s.cfg with periphAddr := addr }, hostIn := .pass :: s.hostIn }

/-- The block's next step starts the auxiliary operation `op` on pin `x[PIN]`. -/
def State.placeAuxOp (s : State) (op : AuxOp) (addr : U16) : State :=
  { s.placePhase .axLoadHdr (zext 7 addr) with auxOp := op }

/-- Places the instruction `i` that the words `w` decode to; words that are no instruction are placed as a command. -/
def placeWord (w : CmdWords) (i : Option Instr) (s : State) : State :=
  match i with
  | none                          => s.placeCommand w
  | some .nop                     => s.placeCommand w
  | some (.portRd32 _ _)          => s.placeCommand w
  | some (.portWr32 _ _)          => s.placeCommand w
  | some (.portRd64 _ _)          => s.placeCommand w
  | some (.twRead _ _ _)          => s.placeCommand w
  | some (.auxRead _ _ _)         => s.placeCommand w
  | some (.acquire _ _)           => s.placeCommand w
  | some (.bringup _ _)           => s.placeCommand w
  | some (.decode _ _)            => s.placeCommand w
  | some (.apply _ _)             => s.placeCommand w
  | some (.modeQuery _ _)         => s.placeCommand w
  | some (.auxIndexWrite addr)    => s.placeAuxOp .indexWrite addr
  | some (.auxWriteProbe addr)    => s.placeAuxOp .writeProbe addr
  | some (.auxReadByte addr)      => s.placeAuxOp .readByte addr
  | some (.twIndexWriteCycle a)   => s.placePhase .twIdxCmd a
  | some (.twReadCycle a)         => s.placePhase .twRdCmd a

end Sys2Proof.Machine
end

