-- ==== Sys2Proof/Machine/Step.lean ====
section
/-! DEFINITION. One step of the machine, and the placing of a word where the next step takes its instruction from. -/

namespace Sys2Proof.Machine

/-- One step. -/
def step (s : State) : Host.Outcome State Fault Refusal := machineStep s

/-- The state in which the very next step runs the instruction that the opcode-table word `w` decodes to (log 12). -/
def State.withFetchWord (s : State) (nbits w : Nat) : State :=
  placeWord (tableWords nbits w) (decodeTableWord nbits w) s

end Sys2Proof.Machine
end

