-- ==== Sys2Proof/WellFormed.lean ====
section
/-! DEFINITION. When an instruction is well-formed: its operands are those its rule admits. -/

namespace Sys2Proof

open Sys2Proof.Machine

/-- The operands of an instruction are those its rule admits. A host command that fails here is still decoded and still has
its meaning (a result code, or a refusal where the spec says `refuse`). -/
def Instr.wf (c : Cfg) : Instr → Bool
  | .nop                   => true
  | .portRd32 a0 _         => highHalfZero a0 && offsetAligned 4 a0
  | .portWr32 a0 a1        => highHalfZero a0 && highHalfZero a1 && offsetAligned 4 a0
  | .portRd64 a0 _         => highHalfZero a0 && offsetAligned 8 a0
  | .twRead pin _ _        => twPinOk pin
  | .auxRead pin _ _       => auxPinOk pin
  | .acquire _ _           => true
  | .bringup _ _           => true
  | .decode _ _            => true
  | .apply a0 a1           => apertureOk a0 a1
  | .modeQuery _ _         => true
  | .auxIndexWrite addr    => addr == zext 16 c.periphAddr
  | .auxWriteProbe addr    => addr == zext 16 c.periphAddr
  | .auxReadByte addr      => addr == zext 16 c.periphAddr
  | .twIndexWriteCycle a   => a == c.periphAddr
  | .twReadCycle a         => a == c.periphAddr

end Sys2Proof
end

