-- ==== Sys2Proof/Safety.lean ====
section
/-! DEFINITION. What the statements speak of: runs, the invariant of the machine, and the words the block may write. -/

namespace Sys2Proof.Machine

/-- `n` steps, stopping at the first refusal. -/
def run : Nat → State → Outcome
  | 0, s     => .next s
  | n + 1, s =>
    match step s with
    | .next s'    => run n s'
    | .fault f    => .fault f
    | .refused r  => .refused r

/-! ## Groups of phases (10_state.md R22) -/

/-- The phases of a two-wire attempt. -/
def Phase.inTwoWire : Phase → Bool
  | .twSel | .twWaitIdle | .twIdxData | .twIdxCmd | .twWaitIdx | .twRdCmd | .twWaitWord | .twRdWord | .twWaitStop
  | .twCheck => true
  | _ => false

/-- The phases of an auxiliary-channel attempt. -/
def Phase.inAux : Phase → Bool
  | .axBegin | .axLoadHdr | .axLoadData | .axStart | .axPoll | .axClear | .axAfter | .axFetch | .axCheck => true
  | _ => false

/-- The phases of `APPLY`. -/
def Phase.inApply : Phase → Bool
  | .apShift | .apHtotal | .apHblank | .apHsync | .apVtotal | .apVblank | .apVsync | .apConfRd | .apConfWr | .apConfPoll
  | .apPlOffset | .apPlStride | .apPlSize | .apPlSurf | .apPlCtl | .apPublish | .apGrow => true
  | _ => false

/-- The phases in which no block has been found yet. -/
def Phase.searching (p : Phase) : Bool :=
  p.inTwoWire || p.inAux || p == .aqNextTw || p == .aqNextAux || p == .aqFail

/-- The four two-wire waits (41 R145). -/
def Phase.twWait : Phase → Bool
  | .twWaitIdle | .twWaitIdx | .twWaitWord | .twWaitStop => true
  | _ => false

/-- The commands that may be running in a phase. -/
def Phase.runs (p : Phase) (op : U8) : Bool :=
  if p.inTwoWire then op == Op.twRead || op == Op.acquire || op == Op.bringup
  else if p.inAux then op == Op.auxRead || op == Op.acquire || op == Op.bringup
  else if p.inApply then op == Op.apply
  else match p with
    | .ptRd32 => op == Op.portRd32
    | .ptWr32 => op == Op.portWr32
    | .ptRd64 => op == Op.portRd64
    | .aqNextTw | .aqNextAux | .aqFail | .aqDone => op == Op.acquire || op == Op.bringup
    | .dcRun => op == Op.decode || op == Op.bringup
    | .mqRun => op == Op.modeQuery
    | _ => true

/-! ## The invariant -/

/-- What `IDX` counts, phase by phase (41 R140, R142; 42 R161, R165): bytes stored so far. -/
def State.idxOk (s : State) : Prop :=
  match s.pc with
  | .twWaitIdle | .twIdxData | .twIdxCmd | .twWaitIdx | .twRdCmd => s.idx = 0 ∧ s.twShort = false
  | .twWaitWord | .twRdWord => s.idx.toNat % 4 = 0 ∧ s.idx.toNat ≤ 124 ∧ s.twShort = false
  | .twWaitStop | .twCheck  => s.idx.toNat % 4 = 0 ∧ (s.twShort = true ∧ s.idx.toNat ≤ 124 ∨ s.twShort = false ∧ s.idx = 128)
  | .axLoadHdr | .axLoadData | .axStart | .axPoll | .axClear | .axAfter =>
    s.idx.toNat < 128 ∧ (s.auxOp ≠ .readByte → s.idx = 0)
  | .axFetch => s.idx.toNat < 128 ∧ s.auxOp = .readByte
  | .axCheck => s.idx = 128
  | _ => True

/-- Where the block was found lies in the range of its transport (43 R174, R178). -/
def State.foundOk (s : State) : Prop :=
  match s.foundTransport with
  | .twoWire => twPinOk s.foundPin = true
  | .aux     => auxPinOk s.foundPin = true

/-- The Mode/Plane State is that of one resolution (45 R224). -/
def ModeState.consistent (m : ModeState) : Prop := m.stride = Machine.stride m.hres ∧ m.fbSize = Machine.stride m.hres * m.vres

/-- The invariant of the machine: it holds after reset and every step keeps it. -/
structure State.Inv (s : State) : Prop where
  /-- The configuration is well-formed (00_scope.md R11). -/
  cfgWf : s.cfg.wf = true
  /-- `BUSY` is 1 exactly outside `IDLE` (00_scope.md R16; 30_encoding.md R82). -/
  busyIff : s.busy = true ↔ s.pc ≠ .idle
  /-- The running command is one of those whose phase this is. -/
  runningCommand : s.pc.runs s.cmdOp = true
  /-- A valid block has the magic header (43 R178). -/
  validBlock : s.edidValid = true → magic s.edid = true ∧ s.foundOk
  /-- A valid timing set is the one decoded from the block held, and the mode table shows its resolution (44 R194, R199). -/
  validTiming : s.timingValid = true →
    s.edidValid = true ∧ s.timing = decodeTiming s.cfg s.edid ∧ s.tblHres = s.timing.hActive ∧ s.tblVres = s.timing.vActive
  /-- While a search runs nothing is valid (10_state.md R26). -/
  searchClears : s.pc.searching = true → s.edidValid = false ∧ s.timingValid = false
  /-- The decoder runs on a valid block only (44 R191, R199). -/
  decoderReady : s.pc = .dcRun ∨ s.pc = .aqDone → s.edidValid = true
  /-- The Sequencer runs on a valid timing set only, with operands that fit the surface register (45 R211). -/
  sequencerReady : s.pc.inApply = true → s.timingValid = true ∧ apertureOk s.arg0 s.arg1 = true
  /-- A Mode/Plane State the host may read is consistent (45 R224). -/
  modeOk : s.configured = true → s.mode.consistent
  /-- The record published is that of the running command (45 R224, R225). -/
  publishOk : s.pc = .apPublish ∨ s.pc = .apGrow → s.mode = modeOf s.timing s.arg0
  /-- The buffer is grown at most once a command (45 R225). -/
  growOnce : s.pc = .apGrow → s.grown = false
  /-- Two-wire pins are 2 to 6 (43 R174). -/
  twPins : s.pc.inTwoWire = true ∨ s.pc = .aqNextTw → twPinOk s.pin = true
  /-- Auxiliary pins are 0 to 5 (43 R174). -/
  auxPins : s.pc.inAux = true ∨ s.pc = .aqNextAux → auxPinOk s.pin = true
  /-- `IDX` counts the bytes stored. -/
  idx : s.idxOk
  /-- `IDX` runs from 0 to 128 (10_state.md R25). -/
  idxRange : s.idx.toNat ≤ 128
  /-- `POLLS` runs from 0 to 16384, and a poll is made only below the budget (60 R253; 42 R155). -/
  pollsRange : s.polls.toNat ≤ 16384 ∧ (s.pc = .axPoll → s.polls.toNat < 16384)
  /-- The offsets of the running `PORT_` command are aligned and 32-bit (40 R120). -/
  portOperands : (s.pc = .ptRd32 ∨ s.pc = .ptWr32 → highHalfZero s.arg0 = true ∧ offsetAligned 4 s.arg0 = true) ∧
    (s.pc = .ptRd64 → highHalfZero s.arg0 = true ∧ offsetAligned 8 s.arg0 = true)

/-- The host's next move is one the spec gives a meaning in this state: no misaligned `PORT_` offset (93 U5), no `APPLY`
outside the aperture relation (93 U7), no read of a register without a value (93 U8), no blit (00_scope.md R7). -/
def State.hostMoveHasMeaning (s : State) : Prop :=
  match s.hostIn with
  | .issue cw a0 a1 :: _ =>
    s.busy = true ∨
    (match decodeCommand ⟨cw, a0, a1⟩ with
     | .ok (.portRd32 a0 _)  => highHalfZero a0 = true → offsetAligned 4 a0 = true
     | .ok (.portWr32 a0 a1) => highHalfZero a0 = true → highHalfZero a1 = true → offsetAligned 4 a0 = true
     | .ok (.portRd64 a0 _)  => highHalfZero a0 = true → offsetAligned 8 a0 = true
     | .ok (.apply a0 a1)    => s.timingValid = true → apertureOk a0 a1 = true
     | _ => True)
  | .read r :: _ => hostRead s r ≠ none
  | .blit :: _   => False
  | _            => True

/-! ## The checks of command issue, from the words of 30_encoding.md R81 to R83 -/

/-- `cw` is an illegal command word: reserved bits, an opcode outside R81's table, a pin on a command without one. -/
def illegalWord (cw : U32) : Prop :=
  bits 31 16 cw ≠ 0 ∨
  bits 7 0 cw ∉ ([0x00, 0x01, 0x02, 0x03, 0x10, 0x11, 0x12, 0x13, 0x20, 0x30, 0x31] : List U8) ∨
  (bits 7 0 cw ∉ ([0x10, 0x11] : List U8) ∧ bits 15 8 cw ≠ 0)

/-- A pin out of range, or a non-zero high half of a 32-bit operand. -/
def badOperands (cw : U32) (a0 a1 : U64) : Prop :=
  (bits 7 0 cw = 0x10 ∧ ¬ (2 ≤ (bits 15 8 cw).toNat ∧ (bits 15 8 cw).toNat ≤ 6)) ∨
  (bits 7 0 cw = 0x11 ∧ ¬ (bits 15 8 cw).toNat ≤ 5) ∨
  ((bits 7 0 cw = 0x01 ∨ bits 7 0 cw = 0x02 ∨ bits 7 0 cw = 0x03) ∧ a0.toNat ≥ 2 ^ 32) ∨
  (bits 7 0 cw = 0x02 ∧ a1.toNat ≥ 2 ^ 32)

/-- `DECODE` without a valid block, `APPLY` without a valid timing set. -/
def notReadyFor (s : State) (cw : U32) : Prop :=
  (bits 7 0 cw = 0x20 ∧ s.edidValid = false) ∨ (bits 7 0 cw = 0x30 ∧ s.timingValid = false)

/-! ## What the block may write (30_encoding.md R112) -/

/-- `WR32(off, v)` is one of the words the block's own micro-sequences write, for the timing set and operands it holds. -/
def BlockWrites (s : State) (off v : U32) : Prop :=
  (off = s.cfg.twSelectOff ∧ (v = 2 ∨ v = 3 ∨ v = 4 ∨ v = 5 ∨ v = 6)) ∨
  (off = s.cfg.twDataOff ∧ v = 0) ∨
  (off = s.cfg.twCommandOff ∧ (v = twIndexWriteWord s.cfg s.cfg.periphAddr ∨ v = twReadWord s.cfg s.cfg.periphAddr)) ∨
  (∃ a ∈ s.cfg.auxPins.toList,
    (off = a.data1 ∧ ∃ op, v = auxHeader s.cfg op (zext 16 s.cfg.periphAddr)) ∨
    (off = a.data2 ∧ v = 0) ∨
    (off = a.ctl ∧ (v = auxStart s.cfg 5 ∨ v = auxStart s.cfg 4 ∨ v = auxClear s.auxSt))) ∨
  (off = s.cfg.syncShiftOff ∧ v = 0) ∨
  (off = s.cfg.htotalOff ∧ v = timingWord s.timing.hActive s.timing.hTotal) ∨
  (off = s.cfg.hblankOff ∧ v = timingWord s.timing.hActive s.timing.hTotal) ∨
  (off = s.cfg.hsyncOff ∧ v = timingWord s.timing.hSyncStart s.timing.hSyncEnd) ∨
  (off = s.cfg.vtotalOff ∧ v = timingWord s.timing.vActive s.timing.vTotal) ∨
  (off = s.cfg.vblankOff ∧ v = timingWord s.timing.vActive s.timing.vTotal) ∨
  (off = s.cfg.vsyncOff ∧ v = timingWord s.timing.vSyncStart s.timing.vSyncEnd) ∨
  (off = s.cfg.pipeconfOff ∧ v = s.confTmp ||| s.cfg.pipeconfEnable) ∨
  (off = s.cfg.planeOffsetOff ∧ v = 0) ∨
  (off = s.cfg.planeStrideOff ∧ v = planeStrideWord s.timing.hActive) ∨
  (off = s.cfg.planeSizeOff ∧ v = timingWord s.timing.hActive s.timing.vActive) ∨
  (off = s.cfg.planeSurfOff ∧ v = surfaceWord s.arg0 s.arg1) ∨
  (off = s.cfg.planeCtlOff ∧ v = s.cfg.planeCtlValue)

/-! ## Reading the port history -/

/-- The offset of a port access; the exchanges on the publish port have none. -/
def Event.offset : Event → Option U32
  | .rd32 off _  => some off
  | .rd64 off _  => some off
  | .wr32 off _  => some off
  | .publish _ _ => none
  | .grow _      => none

/-- The values written to the two-wire *select* register, in order. -/
def selectWrites (c : Cfg) : List Event → List U32
  | [] => []
  | .wr32 off v :: es => if off = c.twSelectOff then v :: selectWrites c es else selectWrites c es
  | _ :: es => selectWrites c es

/-- Every event of a list is an access to one of these offsets. -/
def onlyAt (offs : List U32) (es : List Event) : Prop := ∀ e ∈ es, ∃ off ∈ offs, e.offset = some off

/-- An event is an access to the registers of auxiliary pin `p`. -/
def atAuxPin (c : Cfg) (p : Nat) (e : Event) : Prop := ∃ a, c.auxPins[p]? = some a ∧ ∃ off ∈ a.all, e.offset = some off

/-- A device script: 32-bit answers in the order of the reads. -/
def answers (vs : List U32) : List U64 := vs.map (zext 64)

/-- The events of `n` reads of a register that answered `vs`. -/
def reads (off : U32) (vs : List U32) : List Event := vs.map fun v => .rd32 off v

/-- Events of a transaction, from its header to its clearing write, whose polls answered `sts` (42 R163 to R165). -/
def transactionEvents (c : Cfg) (a : AuxOffsets) (op : AuxOp) (sts : List U32) (last : U32) : List Event :=
  [.wr32 a.data1 (auxHeader c op (zext 16 c.periphAddr))] ++
  (if op = .readByte then [] else [.wr32 a.data2 0]) ++
  [.wr32 a.ctl (auxStart c (auxSize op))] ++ reads a.ctl sts ++ [.wr32 a.ctl (auxClear last)]

/-- The block holds exactly the 128 bytes delivered by 32 *data* words, low byte first (20_memory.md R69). -/
def holdsWords (b : Vector U8 128) (w : Nat → U32) : Prop :=
  ∀ j, j < 32 → b[4 * j]? = some (bits 7 0 (w j)) ∧ b[4 * j + 1]? = some (bits 15 8 (w j)) ∧
    b[4 * j + 2]? = some (bits 23 16 (w j)) ∧ b[4 * j + 3]? = some (bits 31 24 (w j))

end Sys2Proof.Machine
end

