-- ==== Sys2Proof/Certificates/Slice0/Obligations.lean ====
section
/-! DEFINITION. The statements about the machine, for the provers. A statement about a read holds for every answer of the device: the
answer is the script's where State.devIn holds one, else a free value. -/

open Sys2Proof Sys2Proof.Machine

/-! ## Reset -/

/-- R53: the registers the spec gives a value hold it after reset. Which registers the host can read then is the model's reading
of the host column of R25 and of R26 to R31 (log 16: `TBL_HRES`, `TBL_VRES` and the latched command are not among them). -/
def Obligations.ResetLeavesTheSpecifiedValues : Prop :=
  State.reset.pc = .idle ∧ State.reset.busy = false ∧ State.reset.result.code = 0 ∧ State.reset.resultInfo = 0 ∧
  State.reset.rdata = 0 ∧ State.reset.cmdOp = 0 ∧ State.reset.cmdPin = 0 ∧ State.reset.arg0 = 0 ∧ State.reset.arg1 = 0 ∧
  State.reset.edidValid = false ∧ State.reset.timingValid = false ∧ State.reset.configured = false ∧
  State.reset.tblHres = 1024 ∧ State.reset.tblVres = 768 ∧ State.reset.hist = [] ∧
  ∀ r, hostRead State.reset r ≠ none →
    r = .busy ∨ r = .result ∨ r = .resultInfo ∨ r = .rdata ∨ r = .edidValid ∨ r = .timingValid ∨ r = .configured

/-- R270: `RESET` is enabled in every state, also while busy; the specified registers take their reset values; no event is
added to `HIST`, which is kept or started anew as the parameter of U17 says. The registers R270 leaves unspecified are not
spoken of. -/
def Obligations.ResetEventAlwaysReturnsToIdle : Prop :=
  ∀ (s : State) (rest : List HostEvent), s.cfg.wf = true → s.hostIn = .reset :: rest →
    ∃ t, step s = .next t ∧ t.pc = .idle ∧ t.busy = false ∧ t.result.code = 0 ∧ t.resultInfo = 0 ∧ t.rdata = 0 ∧
      t.cmdOp = 0 ∧ t.cmdPin = 0 ∧ t.arg0 = 0 ∧ t.arg1 = 0 ∧ t.edidValid = false ∧ t.timingValid = false ∧
      t.configured = false ∧ t.tblHres = 1024 ∧ t.tblVres = 768 ∧
      t.hist = (if s.cfg.histKept then s.hist else []) ∧ t.cfg = s.cfg ∧ t.hostIn = rest ∧ t.devIn = s.devIn

/-! ## Decoding, encoding and the step -/

/-- Words written out from R81, R86 and R90 decode to what they stand for. The auxiliary and two-wire words are those of the
default configuration, which the opcode table uses (log 1, log 13). -/
def Obligations.WordsWrittenFromTheSpecDecode : Prop :=
  decodeCommand ⟨0x00000410, 7, 9⟩ = .ok (.twRead 4 7 9) ∧
  decodeCommand ⟨0x00000211, 0, 0⟩ = .ok (.auxRead 2 0 0) ∧
  decodeCommand ⟨0x00000030, 0x80000000, 0x80000000⟩ = .ok (.apply 0x80000000 0x80000000) ∧
  decodeCommand ⟨0x00010012, 0, 0⟩ = .rejected .reservedBits ∧
  decodeAuxHeader Cfg.default 0x40005000 = .ok (.auxIndexWrite 0x50) ∧
  decodeAuxHeader Cfg.default 0x10005100 = .ok (.auxReadByte 0x51) ∧
  decodeTwCommand Cfg.default 0x420100A0 = .ok (.twIndexWriteCycle 0x50) ∧
  decodeTwCommand Cfg.default 0x428000A1 = .ok (.twReadCycle 0x50)

/-- Decoding the encoding of a host command gives it back, with every operand at every value, under every configuration. -/
def Obligations.CommandDecodeOfEncodeIsIdentity : Prop :=
  ∀ (c : Cfg) (i : Instr),
    (∀ a, i ≠ .auxIndexWrite a) → (∀ a, i ≠ .auxWriteProbe a) → (∀ a, i ≠ .auxReadByte a) →
    (∀ a, i ≠ .twIndexWriteCycle a) → (∀ a, i ≠ .twReadCycle a) →
    ∃ w, encode c i = .command w ∧ decode c (.command w) = .ok i

/-- Decoding the word of an auxiliary operation or a two-wire cycle gives it back, for every address, under the default layout
of R10 (log 1: PRESUMED; the opcode table is made from it). -/
def Obligations.WireWordDecodeOfEncodeIsIdentity : Prop :=
  (∀ a, decode Cfg.default (encode Cfg.default (.auxIndexWrite a)) = .ok (.auxIndexWrite a)) ∧
  (∀ a, decode Cfg.default (encode Cfg.default (.auxWriteProbe a)) = .ok (.auxWriteProbe a)) ∧
  (∀ a, decode Cfg.default (encode Cfg.default (.auxReadByte a)) = .ok (.auxReadByte a)) ∧
  (∀ a, decode Cfg.default (encode Cfg.default (.twIndexWriteCycle a)) = .ok (.twIndexWriteCycle a)) ∧
  (∀ a, decode Cfg.default (encode Cfg.default (.twReadCycle a)) = .ok (.twReadCycle a))

/-- Every accepted command word has one meaning: an instruction other than `NOP`, whose operands are ignored, encodes back to
the words it was decoded from. -/
def Obligations.CommandEncodeOfDecodeIsIdentity : Prop :=
  ∀ (c : Cfg) (w : CmdWords) (i : Instr), decodeCommand w = .ok i → i ≠ .nop → encode c i = .command w

/-- A step runs the decoded instruction. The issue of a word that decodes to `i` is `exec i`. Where the host makes no move, passes,
or waits for a busy block (log 6; `WAIT` of R84), the step is the block's own; a wait of a free block is used up. In the phases
that run an auxiliary operation or a two-wire cycle the block's own step is `exec` of it, for `PERIPH_ADDR`. -/
def Obligations.StepRunsTheDecodedInstruction : Prop :=
  (∀ (s : State) (cw : U32) (a0 a1 : U64) (rest : List HostEvent) (i : Instr), s.cfg.wf = true →
    s.hostIn = .issue cw a0 a1 :: rest → decodeCommand ⟨cw, a0, a1⟩ = .ok i →
    step s = exec i { s with hostIn := rest }) ∧
  (∀ s : State, s.cfg.wf = true → s.hostIn = [] → step s = blockStep s) ∧
  (∀ (s : State) (rest : List HostEvent), s.cfg.wf = true → s.hostIn = .pass :: rest →
    step s = blockStep { s with hostIn := rest }) ∧
  (∀ (s : State) (rest : List HostEvent), s.cfg.wf = true → s.hostIn = .wait :: rest →
    (s.busy = true → step s = blockStep s) ∧ (s.busy = false → step s = .next { s with hostIn := rest })) ∧
  (∀ s : State, s.pc = .axLoadHdr →
    blockStep s = match s.auxOp with
      | .indexWrite => exec (.auxIndexWrite (zext 16 s.cfg.periphAddr)) s
      | .writeProbe => exec (.auxWriteProbe (zext 16 s.cfg.periphAddr)) s
      | .readByte   => exec (.auxReadByte (zext 16 s.cfg.periphAddr)) s) ∧
  (∀ s : State, s.pc = .twIdxCmd → blockStep s = exec (.twIndexWriteCycle s.cfg.periphAddr) s) ∧
  (∀ s : State, s.pc = .twRdCmd → blockStep s = exec (.twReadCycle s.cfg.periphAddr) s)

/-! ## Command issue -/

/-- R246, R83: the checks at issue, in their order, for every command word and operands, with the whole next state: a busy
block drops the command, a rejected one writes `RESULT` and `RESULT_INFO = cw` and nothing else. That this holds too of commands
the spec would refuse (a busy block and a misaligned `PORT_` offset; `APPLY` outside the aperture relation without a timing set)
is the model's order (log 10). -/
def Obligations.IssueChecksInOrder : Prop :=
  ∀ (s : State) (cw : U32) (a0 a1 : U64),
    (s.busy = true → commandIssue ⟨cw, a0, a1⟩ s = .next s) ∧
    (s.busy = false → illegalWord cw →
      commandIssue ⟨cw, a0, a1⟩ s = .next { s with result := .illegalCmd, resultInfo := cw }) ∧
    (s.busy = false → ¬ illegalWord cw → badOperands cw a0 a1 →
      commandIssue ⟨cw, a0, a1⟩ s = .next { s with result := .badOperand, resultInfo := cw }) ∧
    (s.busy = false → ¬ illegalWord cw → ¬ badOperands cw a0 a1 → notReadyFor s cw →
      commandIssue ⟨cw, a0, a1⟩ s = .next { s with result := .notReady, resultInfo := cw })

/-- A step in which the host issues a command while a command runs drops it: only the host's move is used up. That holds too of a
command the spec would refuse (log 10). -/
def Obligations.StepDropsACommandIssuedWhileBusy : Prop :=
  ∀ (s : State) (cw : U32) (a0 a1 : U64) (rest : List HostEvent), s.cfg.wf = true → s.busy = true →
    s.hostIn = .issue cw a0 a1 :: rest → step s = .next { s with hostIn := rest }

/-- `NOP` answers `OK` and changes nothing else. That it does not latch `CMD_OP` and the operands is the model's choice
(log 11). -/
def Obligations.NopOnlyAnswersOk : Prop :=
  ∀ (s : State) (a0 a1 : U64), s.busy = false →
    decodeCommand ⟨0x00000000, a0, a1⟩ = .ok .nop ∧
    exec .nop s = .next { s with result := .ok, resultInfo := 0 }

/-- The four commands that search for a block are latched and start their first attempt with both validity flags cleared, and
nothing else changes. -/
def Obligations.SearchCommandsStart : Prop :=
  ∀ (s : State) (a0 a1 : U64), s.busy = false →
    (∀ pin : U8, 2 ≤ pin.toNat → pin.toNat ≤ 6 →
      exec (.twRead pin a0 a1) s = .next { s with cmdOp := 0x10, cmdPin := pin, arg0 := a0, arg1 := a1, busy := true, pc := .twSel, edidValid := false, timingValid := false, pin := pin }) ∧
    (∀ pin : U8, pin.toNat ≤ 5 →
      exec (.auxRead pin a0 a1) s = .next { s with cmdOp := 0x11, cmdPin := pin, arg0 := a0, arg1 := a1, busy := true, pc := .axBegin, edidValid := false, timingValid := false, pin := pin }) ∧
    exec (.acquire a0 a1) s = .next { s with cmdOp := 0x12, cmdPin := 0, arg0 := a0, arg1 := a1, busy := true, pc := .twSel, edidValid := false, timingValid := false, pin := 2 } ∧
    exec (.bringup a0 a1) s = .next { s with cmdOp := 0x13, cmdPin := 0, arg0 := a0, arg1 := a1, busy := true, pc := .twSel, edidValid := false, timingValid := false, pin := 2 }

/-- `DECODE`, `APPLY` and `MODE_QUERY` are latched and started when their conditions hold, and nothing else changes. -/
def Obligations.DecodeApplyAndModeQueryStart : Prop :=
  ∀ (s : State) (a0 a1 : U64), s.busy = false →
    (s.edidValid = true →
      exec (.decode a0 a1) s = .next { s with cmdOp := 0x20, cmdPin := 0, arg0 := a0, arg1 := a1, busy := true, pc := .dcRun, timingValid := false }) ∧
    (s.timingValid = true → a1.toNat ≤ a0.toNat → a0.toNat - a1.toNat < 2 ^ 32 →
      exec (.apply a0 a1) s = .next { s with cmdOp := 0x30, cmdPin := 0, arg0 := a0, arg1 := a1, busy := true, pc := .apShift, grown := false }) ∧
    exec (.modeQuery a0 a1) s = .next { s with cmdOp := 0x31, cmdPin := 0, arg0 := a0, arg1 := a1, busy := true, pc := .mqRun }

/-- Where the spec says `refuse`: a misaligned `PORT_` offset (U5), `APPLY` outside the aperture relation (U7), each only after
the checks that give a code (log 10: the model's order). -/
def Obligations.RefusedOperandsHaveNoStep : Prop :=
  ∀ (s : State) (a0 a1 : U64), s.busy = false →
    (a0.toNat < 2 ^ 32 → a0.toNat % 4 ≠ 0 → exec (.portRd32 a0 a1) s = .refused .misalignedOffset) ∧
    (a0.toNat < 2 ^ 32 → a1.toNat < 2 ^ 32 → a0.toNat % 4 ≠ 0 → exec (.portWr32 a0 a1) s = .refused .misalignedOffset) ∧
    (a0.toNat < 2 ^ 32 → a0.toNat % 8 ≠ 0 → exec (.portRd64 a0 a1) s = .refused .misalignedOffset) ∧
    (s.timingValid = true → ¬ (a1.toNat ≤ a0.toNat ∧ a0.toNat - a1.toNat < 2 ^ 32) →
      exec (.apply a0 a1) s = .refused .framebufferOutsideAperture)

/-- R11: an ill-formed configuration has no step. -/
def Obligations.IllFormedConfigurationIsRefused : Prop :=
  ∀ s : State, s.cfg.wf = false → step s = .refused .illFormedCfg

/-! ## The Register Port commands -/

/-- R121: `PORT_RD32` from issue to end, with the whole state: one 32-bit read at the offset, its value in `RDATA`
zero-extended and in `RESULT_INFO`. -/
def Obligations.PortRd32ReadsOneWordIntoRdata : Prop :=
  ∀ (s : State) (a0 a1 : U64), s.cfg.wf = true → s.hostIn = [] → s.busy = false →
    a0.toNat < 2 ^ 32 → a0.toNat % 4 = 0 →
    decodeCommand ⟨0x00000001, a0, a1⟩ = .ok (.portRd32 a0 a1) ∧
    ∃ t v, exec (.portRd32 a0 a1) s = .next t ∧
      t = { s with cmdOp := 0x01, cmdPin := 0, arg0 := a0, arg1 := a1, busy := true, pc := .ptRd32 } ∧
      step t = .next { t with rdata := zext 64 v, result := .ok, resultInfo := v, busy := false, pc := .idle, hist := t.hist ++ [.rd32 (zext 32 a0) v], devIn := t.devIn.tail, freeCount := t.freeCount + 1 } ∧
      (∀ w ws, s.devIn = w :: ws → v = zext 32 w)

/-- R122: `PORT_WR32` from issue to end, with the whole state: one write, `RDATA` and every flag unchanged. -/
def Obligations.PortWr32WritesOneWord : Prop :=
  ∀ (s : State) (a0 a1 : U64), s.cfg.wf = true → s.hostIn = [] → s.busy = false →
    a0.toNat < 2 ^ 32 → a1.toNat < 2 ^ 32 → a0.toNat % 4 = 0 →
    decodeCommand ⟨0x00000002, a0, a1⟩ = .ok (.portWr32 a0 a1) ∧
    ∃ t, exec (.portWr32 a0 a1) s = .next t ∧
      t = { s with cmdOp := 0x02, cmdPin := 0, arg0 := a0, arg1 := a1, busy := true, pc := .ptWr32 } ∧
      step t = .next { t with result := .ok, resultInfo := 0, busy := false, pc := .idle, hist := t.hist ++ [.wr32 (zext 32 a0) (zext 32 a1)] }

/-- R123: `PORT_RD64` from issue to end, with the whole state: one atomic 64-bit read. -/
def Obligations.PortRd64ReadsOneDoubleWordIntoRdata : Prop :=
  ∀ (s : State) (a0 a1 : U64), s.cfg.wf = true → s.hostIn = [] → s.busy = false →
    a0.toNat < 2 ^ 32 → a0.toNat % 8 = 0 →
    decodeCommand ⟨0x00000003, a0, a1⟩ = .ok (.portRd64 a0 a1) ∧
    ∃ t v, exec (.portRd64 a0 a1) s = .next t ∧
      t = { s with cmdOp := 0x03, cmdPin := 0, arg0 := a0, arg1 := a1, busy := true, pc := .ptRd64 } ∧
      step t = .next { t with rdata := v, result := .ok, resultInfo := zext 32 v, busy := false, pc := .idle, hist := t.hist ++ [.rd64 (zext 32 a0) v], devIn := t.devIn.tail, freeCount := t.freeCount + 1 } ∧
      (∀ w ws, s.devIn = w :: ws → v = w)

/-! ## The two-wire attempt -/

/-- R86, R136, R138: the two cycles write the *command* word, the OR of its five fields under every configuration, and go on to the
poll; nothing else changes. For every address, and through the phases for `PERIPH_ADDR`. -/
def Obligations.TwoWireCyclesWriteTheCommandRegister : Prop :=
  ∀ (s : State) (a : BitVec 7),
    exec (.twIndexWriteCycle a) s = .next { s with pc := .twWaitIdx, hist := s.hist ++ [.wr32 s.cfg.twCommandOff
      (s.cfg.twCmdSwRdy ||| s.cfg.twCmdCycleWait ||| ((1 : U32) <<< s.cfg.twCmdCountShift) |||
        (zext 32 a <<< s.cfg.twCmdAddrShift) ||| s.cfg.twCmdDirWrite)] } ∧
    exec (.twReadCycle a) s = .next { s with pc := .twWaitWord, hist := s.hist ++ [.wr32 s.cfg.twCommandOff
      (s.cfg.twCmdSwRdy ||| s.cfg.twCmdCycleWait ||| ((128 : U32) <<< s.cfg.twCmdCountShift) |||
        (zext 32 a <<< s.cfg.twCmdAddrShift) ||| s.cfg.twCmdDirRead)] } ∧
    (s.pc = .twIdxCmd → blockStep s = exec (.twIndexWriteCycle s.cfg.periphAddr) s) ∧
    (s.pc = .twRdCmd → blockStep s = exec (.twReadCycle s.cfg.periphAddr) s)

/-- R133, R135: the attempt starts by writing the pin to *select*, and gives the index byte 0 to *data*. -/
def Obligations.TwoWireAttemptSelectsThePinAndGivesIndexZero : Prop :=
  ∀ s : State,
    (s.pc = .twSel → blockStep s = .next { s with idx := 0, twShort := false, pc := .twWaitIdle, hist := s.hist ++ [.wr32 s.cfg.twSelectOff (zext 32 s.pin)] }) ∧
    (s.pc = .twIdxData → blockStep s = .next { s with pc := .twIdxCmd, hist := s.hist ++ [.wr32 s.cfg.twDataOff 0] })

/-- R132, R134, R137, R139, R141: what each two-wire wait does with the *status* value `v` it reads: the bus-error flag is
tested first, a value with neither flag leaves the phase as it is, and nothing else changes. `r` is the state after the
read. -/
def Obligations.TwoWireWaitsEndOnTheirFlags : Prop :=
  ∀ s : State, ∃ v : U32, ∀ r : State,
    r = { s with hist := s.hist ++ [.rd32 s.cfg.twStatusOff v], devIn := s.devIn.tail, freeCount := s.freeCount + 1 } →
    (∀ w ws, s.devIn = w :: ws → v = zext 32 w) ∧
    (s.pc.twWait = true → v &&& s.cfg.twStBusErr = 0 → v &&& s.cfg.twStHwRdy = 0 → blockStep s = .next r) ∧
    (v &&& s.cfg.twStBusErr = 0 → v &&& s.cfg.twStHwRdy ≠ 0 →
      (s.pc = .twWaitIdle → blockStep s = .next { r with pc := .twIdxData }) ∧
      (s.pc = .twWaitIdx → blockStep s = .next { r with pc := .twRdCmd }) ∧
      (s.pc = .twWaitWord → blockStep s = .next { r with pc := .twRdWord }) ∧
      (s.pc = .twWaitStop → blockStep s = .next { r with pc := .twCheck })) ∧
    (v &&& s.cfg.twStBusErr ≠ 0 →
      (s.pc = .twWaitIdle → blockStep s = .next (attemptEnd .twoWire .unavailable r)) ∧
      (s.pc = .twWaitIdx → blockStep s = .next { r with pc := .twRdCmd }) ∧
      (s.pc = .twWaitWord → blockStep s = .next { r with twShort := true, pc := .twWaitStop }) ∧
      (s.pc = .twWaitStop → blockStep s = .next { r with pc := .twCheck }))

/-- R140, R69: one quantum of the read stores the four bytes of the word at `IDX`, low byte first, leaves every other byte of
the buffer, moves `IDX` by 4 and stops at 128. -/
def Obligations.TwoWireWordIsStoredLowByteFirst : Prop :=
  ∀ s : State, s.pc = .twRdWord → s.idx.toNat + 4 ≤ 128 →
    ∃ t w, blockStep s = .next t ∧ (∀ d ds, s.devIn = d :: ds → w = zext 32 d) ∧
      t = { s with edid := t.edid, idx := s.idx + 4, pc := t.pc, hist := s.hist ++ [.rd32 s.cfg.twDataOff w], devIn := s.devIn.tail, freeCount := s.freeCount + 1 } ∧
      t.pc = (if s.idx.toNat + 4 ≥ 128 then .twWaitStop else .twWaitWord) ∧
      t.edid[s.idx.toNat]? = some (bits 7 0 w) ∧ t.edid[s.idx.toNat + 1]? = some (bits 15 8 w) ∧
      t.edid[s.idx.toNat + 2]? = some (bits 23 16 w) ∧ t.edid[s.idx.toNat + 3]? = some (bits 31 24 w) ∧
      ∀ i : Nat, (i < s.idx.toNat ∨ s.idx.toNat + 4 ≤ i) → t.edid[i]? = s.edid[i]?

/-- R142, R162, R184: the outcome of a finished attempt. A short two-wire read is a bus error whatever its bytes; a complete
block is accepted exactly when its first eight bytes are `00 FF FF FF FF FF FF 00`, whatever the others. -/
def Obligations.FinishedAttemptIsAcceptedByItsHeaderAlone : Prop :=
  ∀ s : State,
    let header := s.edid.toList.take 8 = [0x00, 0xFF, 0xFF, 0xFF, 0xFF, 0xFF, 0xFF, 0x00]
    (s.pc = .twCheck → s.twShort = true ∨ s.idx.toNat < 128 → blockStep s = .next (attemptEnd .twoWire .busError s)) ∧
    (s.pc = .twCheck → s.twShort = false → s.idx.toNat ≥ 128 → header →
      blockStep s = .next (attemptEnd .twoWire .found s)) ∧
    (s.pc = .twCheck → s.twShort = false → s.idx.toNat ≥ 128 → ¬ header →
      blockStep s = .next (attemptEnd .twoWire .badHeader s)) ∧
    (s.pc = .axCheck → header → blockStep s = .next (attemptEnd .aux .found s)) ∧
    (s.pc = .axCheck → ¬ header → blockStep s = .next (attemptEnd .aux .badHeader s))

/-- R176, R178: how an attempt ends, with the whole state. A single-attempt command surfaces the outcome's code with
`RESULT_INFO = IDX`; `ACQUIRE` and `BRINGUP` go to the next pin, or to `AQ_DONE`; a found block is marked. -/
def Obligations.AttemptEndSurfacesOrGoesOn : Prop :=
  ∀ (s : State) (tr : Transport) (o : AttemptOutcome) (m : State),
    m = (if o = .found then { s with foundTransport := tr, foundPin := s.pin, edidValid := true } else s) →
    ((s.cmdOp = 0x10 ∨ s.cmdOp = 0x11) →
      attemptEnd tr o s = { m with result := outcomeCode o, resultInfo := zext 32 s.idx, busy := false, pc := .idle }) ∧
    (s.cmdOp ≠ 0x10 → s.cmdOp ≠ 0x11 →
      attemptEnd tr o s = { m with pc := if o = .found then .aqDone else if tr = .twoWire then .aqNextTw else .aqNextAux }) ∧
    (outcomeCode .found).code = 0 ∧ (outcomeCode .unavailable).code = 8 ∧ (outcomeCode .busError).code = 9 ∧
    (outcomeCode .auxError).code = 10 ∧ (outcomeCode .badHeader).code = 11

/-- `TW_READ` run whole, when every *status* read is ready: the 71 accesses of R146 in order, the 128 bytes of the 32 words
stored low byte first, and `OK` or `BAD_HEADER` by the header. -/
def Obligations.TwReadStoresTheBlockTheDeviceDelivers : Prop :=
  ∀ (s : State) (pin : U8) (a0 a1 : U64) (st w : Nat → U32) (rest : List U64),
    s.cfg.wf = true → s.hostIn = [] → s.busy = false → twPinOk pin = true →
    (∀ i, twClassify s.cfg (st i) = .ready) →
    s.devIn = answers ([st 0, st 1] ++ ((List.range 32).flatMap fun j => [st (j + 2), w j]) ++ [st 34]) ++ rest →
    ∃ t u, exec (.twRead pin a0 a1) s = .next t ∧ run 72 t = .next u ∧
      u.busy = false ∧ u.pc = .idle ∧ u.resultInfo = 128 ∧ u.devIn = rest ∧ holdsWords u.edid w ∧
      u.hist = s.hist ++
        [.wr32 s.cfg.twSelectOff (zext 32 pin), .rd32 s.cfg.twStatusOff (st 0), .wr32 s.cfg.twDataOff 0,
         .wr32 s.cfg.twCommandOff (twCmd s.cfg s.cfg.periphAddr 1 s.cfg.twCmdDirWrite), .rd32 s.cfg.twStatusOff (st 1),
         .wr32 s.cfg.twCommandOff (twCmd s.cfg s.cfg.periphAddr 128 s.cfg.twCmdDirRead)] ++
        ((List.range 32).flatMap fun j => [.rd32 s.cfg.twStatusOff (st (j + 2)), .rd32 s.cfg.twDataOff (w j)]) ++
        [.rd32 s.cfg.twStatusOff (st 34)] ∧
      (if magic u.edid then
        u.result = .ok ∧ u.edidValid = true ∧ u.foundTransport = .twoWire ∧ u.foundPin = pin
       else u.result = .badHeader ∧ u.edidValid = false)

/-- R145: no two-wire wait has a bound. However many *status* values with neither flag the device answers, the block is still
in the same wait, and all it has done is read *status* each time. -/
def Obligations.TwoWireWaitHasNoBound : Prop :=
  ∀ (s : State) (sts : List U32) (rest : List U64), s.cfg.wf = true → s.hostIn = [] → s.pc.twWait = true →
    (∀ v ∈ sts, twClassify s.cfg v = .wait) → s.devIn = answers sts ++ rest →
    run sts.length s = .next { s with hist := s.hist ++ reads s.cfg.twStatusOff sts, devIn := rest, freeCount := s.freeCount + sts.length }

/-! ## The auxiliary channel -/

/-- R152 and R163 to R165: each auxiliary operation starts by writing its header to *data1* of pin `PIN`; a byte read has no
data byte. For every address, with the whole state. -/
def Obligations.AuxOperationsStartWithTheirHeader : Prop :=
  ∀ (s : State) (a : AuxOffsets) (addr : U16), s.cfg.auxPins[s.pin.toNat]? = some a →
    exec (.auxIndexWrite addr) s = .next { s with auxOp := .indexWrite, pc := .axLoadData, hist := s.hist ++ [.wr32 a.data1 (auxHdr (s.cfg.auxOpI2cWrite ||| s.cfg.auxOpMot) addr 0)] } ∧
    exec (.auxWriteProbe addr) s = .next { s with auxOp := .writeProbe, pc := .axLoadData, hist := s.hist ++ [.wr32 a.data1 (auxHdr s.cfg.auxOpI2cWrite addr 0)] } ∧
    exec (.auxReadByte addr) s = .next { s with auxOp := .readByte, pc := .axStart, hist := s.hist ++ [.wr32 a.data1 (auxHdr s.cfg.auxOpI2cRead addr 0)] }

/-- R153, R154, R157: the data byte, the start word and the clearing write of a transaction, with the whole state. -/
def Obligations.AuxTransactionWrites : Prop :=
  ∀ (s : State) (a : AuxOffsets), s.cfg.auxPins[s.pin.toNat]? = some a →
    (s.pc = .axLoadData → blockStep s = .next { s with pc := .axStart, hist := s.hist ++ [.wr32 a.data2 0] }) ∧
    (s.pc = .axStart → blockStep s = .next { s with polls := 0, pc := .axPoll, hist := s.hist ++ [.wr32 a.ctl (auxStart s.cfg (if s.auxOp = .readByte then 4 else 5))] }) ∧
    (s.pc = .axClear → blockStep s = .next { s with pc := .axAfter, hist := s.hist ++ [.wr32 a.ctl (auxClear s.auxSt)] })

/-- R155: one poll reads *control* once, keeps the value and counts; it ends the wait when bit 31 is clear or the count has
reached 16384. -/
def Obligations.AuxPollReadsControlOnce : Prop :=
  ∀ (s : State) (a : AuxOffsets), s.cfg.auxPins[s.pin.toNat]? = some a → s.pc = .axPoll →
    ∃ v : U32, (∀ d ds, s.devIn = d :: ds → v = zext 32 d) ∧
      blockStep s = .next { s with auxSt := v, polls := s.polls + 1, pc := (if v.getLsbD 31 = false ∨ s.polls + 1 = 16384 then .axClear else .axPoll), hist := s.hist ++ [.rd32 a.ctl v], devIn := s.devIn.tail, freeCount := s.freeCount + 1 }

/-- R159, R160: the order of the operations of an attempt, and that only the write probe's status is examined: bit 28 or bit 25
set abandons the pin. -/
def Obligations.AuxAttemptRunsIndexWriteProbeThenReads : Prop :=
  ∀ s : State,
    (s.pc = .axBegin → blockStep s = .next { s with idx := 0, auxOp := .indexWrite, pc := .axLoadHdr }) ∧
    (s.pc = .axAfter → s.auxOp = .indexWrite → blockStep s = .next { s with auxOp := .writeProbe, pc := .axLoadHdr }) ∧
    (s.pc = .axAfter → s.auxOp = .writeProbe → s.auxSt.getLsbD 28 = true ∨ s.auxSt.getLsbD 25 = true →
      blockStep s = .next (attemptEnd .aux .auxError s)) ∧
    (s.pc = .axAfter → s.auxOp = .writeProbe → s.auxSt.getLsbD 28 = false → s.auxSt.getLsbD 25 = false →
      blockStep s = .next { s with auxOp := .readByte, pc := .axLoadHdr }) ∧
    (s.pc = .axAfter → s.auxOp = .readByte → blockStep s = .next { s with pc := .axFetch })

/-- R161, R95: a fetch stores bits 23:16 of *data1* at `IDX`, leaves every other byte of the buffer, and counts to 128. -/
def Obligations.AuxFetchStoresTheSecondReplyByte : Prop :=
  ∀ (s : State) (a : AuxOffsets), s.cfg.auxPins[s.pin.toNat]? = some a → s.pc = .axFetch → s.idx.toNat < 128 →
    ∃ t w, blockStep s = .next t ∧ (∀ d ds, s.devIn = d :: ds → w = zext 32 d) ∧
      t = { s with edid := t.edid, idx := s.idx + 1, pc := t.pc, hist := s.hist ++ [.rd32 a.data1 w], devIn := s.devIn.tail, freeCount := s.freeCount + 1 } ∧
      t.pc = (if s.idx.toNat + 1 = 128 then .axCheck else .axLoadHdr) ∧
      t.edid[s.idx.toNat]? = some (bits 23 16 w) ∧ ∀ i : Nat, i ≠ s.idx.toNat → t.edid[i]? = s.edid[i]?

/-- One transaction run whole (R151, R158, R163 to R165): busy answers `sts` below the budget, then a last one that ends the
wait because busy has cleared or because it is the 16384th. Its events are exactly those of the operation, and the status
left is the last value read. -/
def Obligations.AuxTransactionRunsToItsClearingWrite : Prop :=
  ∀ (s : State) (a : AuxOffsets) (sts : List U32) (last : U32) (rest : List U64),
    s.cfg.wf = true → s.hostIn = [] → s.pc = .axLoadHdr → s.cfg.auxPins[s.pin.toNat]? = some a →
    (∀ v ∈ sts, v.getLsbD 31 = true) → sts.length ≤ 16383 → (last.getLsbD 31 = false ∨ sts.length = 16383) →
    s.devIn = answers (sts ++ [last]) ++ rest →
    ∃ t, run ((if s.auxOp = .readByte then 4 else 5) + sts.length) s = .next t ∧ t.pc = .axAfter ∧ t.auxOp = s.auxOp ∧
      t.auxSt = last ∧ t.pin = s.pin ∧ t.idx = s.idx ∧ t.edid = s.edid ∧ t.devIn = rest ∧
      t.polls.toNat = sts.length + 1 ∧
      t.hist = s.hist ++ transactionEvents s.cfg a s.auxOp (sts ++ [last]) last

/-- R156: every transaction leaves `AX_POLL` after at most 16384 steps whatever the device answers, one read each. -/
def Obligations.AuxPollIsBounded : Prop :=
  ∀ s : State, s.cfg.wf = true → s.hostIn = [] → s.pc = .axPoll → s.polls = 0 → auxPinOk s.pin = true →
    ∃ n t, 1 ≤ n ∧ n ≤ 16384 ∧ run n s = .next t ∧ t.pc = .axClear ∧ t.hist.length = s.hist.length + n

/-- `AUX_READ` always ends, whatever the device answers, within the access count of R166. -/
def Obligations.AuxReadAlwaysEnds : Prop :=
  ∀ (s : State) (pin : U8) (a0 a1 : U64), s.cfg.wf = true → s.hostIn = [] → s.busy = false → pin.toNat ≤ 5 →
    ∃ t n u, exec (.auxRead pin a0 a1) s = .next t ∧ run n t = .next u ∧ u.busy = false ∧ u.pc = .idle ∧
      u.hist.length ≤ s.hist.length + (2 * (4 + 16384) + 128 * (4 + 16384)) ∧
      (u.result = .ok ∨ u.result = .badHeader ∨ u.result = .auxTransactionError) ∧
      (u.result = .ok ↔ u.edidValid = true)

/-! ## The acquirer -/

/-- R177, R179, R180, R181: the next pin, the fallback, the failure and the success of a search, with the whole state. -/
def Obligations.AcquirerMovesThroughThePins : Prop :=
  ∀ s : State,
    (s.pc = .aqNextTw → s.pin.toNat < 6 → blockStep s = .next { s with pin := s.pin + 1, pc := .twSel }) ∧
    (s.pc = .aqNextTw → ¬ s.pin.toNat < 6 → blockStep s = .next { s with pin := 0, pc := .axBegin }) ∧
    (s.pc = .aqNextAux → s.pin.toNat < 5 → blockStep s = .next { s with pin := s.pin + 1, pc := .axBegin }) ∧
    (s.pc = .aqNextAux → ¬ s.pin.toNat < 5 → blockStep s = .next { s with pc := .aqFail }) ∧
    (s.pc = .aqFail → blockStep s = .next { s with result := .idNotFound, resultInfo := 0, busy := false, pc := .idle }) ∧
    (s.pc = .aqDone → s.cmdOp = 0x13 → blockStep s = .next { s with pc := .dcRun }) ∧
    (s.pc = .aqDone → s.cmdOp ≠ 0x13 →
      blockStep s = .next { s with result := .ok, resultInfo := (s.foundTransport.code <<< 8) ||| zext 32 s.foundPin, busy := false, pc := .idle })

/-- `ACQUIRE` and `BRINGUP` run whole when pin 2 delivers a block with the magic header: found there, `RESULT_INFO = 2`, no
later pin and no other transport touched (71 accesses); `BRINGUP` has decoded the block too. -/
def Obligations.SearchSucceedsOnTheFirstPin : Prop :=
  ∀ (s : State) (a0 a1 : U64) (st w : Nat → U32) (rest : List U64),
    s.cfg.wf = true → s.hostIn = [] → s.busy = false →
    (∀ i, twClassify s.cfg (st i) = .ready) → w 0 = 0xFFFFFF00 → w 1 = 0x00FFFFFF →
    s.devIn = answers ([st 0, st 1] ++ ((List.range 32).flatMap fun j => [st (j + 2), w j]) ++ [st 34]) ++ rest →
    (∃ t u, exec (.acquire a0 a1) s = .next t ∧ run 73 t = .next u ∧ u.busy = false ∧ u.pc = .idle ∧ u.result = .ok ∧
      u.resultInfo = 2 ∧ u.edidValid = true ∧ u.foundTransport = .twoWire ∧ u.foundPin = 2 ∧ holdsWords u.edid w ∧
      u.timingValid = false ∧ u.tblHres = s.tblHres ∧ u.tblVres = s.tblVres ∧
      u.hist.length = s.hist.length + 71 ∧ u.devIn = rest) ∧
    (∃ t u, exec (.bringup a0 a1) s = .next t ∧ run 74 t = .next u ∧ u.busy = false ∧ u.pc = .idle ∧ u.result = .ok ∧
      u.resultInfo = 2 ∧ u.edidValid = true ∧ u.foundTransport = .twoWire ∧ u.foundPin = 2 ∧ holdsWords u.edid w ∧
      u.timingValid = true ∧ u.timing = decodeTiming s.cfg u.edid ∧ u.tblHres = u.timing.hActive ∧
      u.tblVres = u.timing.vActive ∧ u.hist.length = s.hist.length + 71 ∧ u.devIn = rest)

/-- The fastest failure (Scenario C), for both searches: a bus error in the first poll of every two-wire pin and an error bit on
every write probe end in `ID_NOT_FOUND` after eleven attempts and 70 accesses, with the mode table untouched. Searches that fail
later on a pin are not spoken of. -/
def Obligations.SearchFailsAfterElevenAttempts : Prop :=
  ∀ (s : State) (a0 a1 : U64) (tw ix pr : Nat → U32) (rest : List U64),
    s.cfg.wf = true → s.hostIn = [] → s.busy = false →
    (∀ i, twClassify s.cfg (tw i) = .busErr) → (∀ i, auxBusy (ix i) = false) →
    (∀ i, auxBusy (pr i) = false ∧ auxError (pr i) = true) →
    s.devIn = answers (((List.range 5).map tw) ++ (List.range 6).flatMap fun p => [ix p, pr p]) ++ rest →
    ∀ i, (i = .acquire a0 a1 ∨ i = .bringup a0 a1) →
    ∃ t u, exec i s = .next t ∧ run 100 t = .next u ∧ u.busy = false ∧ u.pc = .idle ∧ u.result = .idNotFound ∧
      u.resultInfo = 0 ∧ u.edidValid = false ∧ u.timingValid = false ∧ u.tblHres = s.tblHres ∧ u.tblVres = s.tblVres ∧
      u.hist.length = s.hist.length + 70 ∧ u.devIn = rest

/-- The order of a search at every moment of it, whatever the device answers: all two-wire accesses before all auxiliary ones,
the two-wire pins 2, 3, 4, ... in order and each once, the auxiliary channel only after all five, its pins 0, 1, 2, ... in
order, and no access beyond those of the pin on which the block was found. -/
def Obligations.SearchTriesPinsInOrder : Prop :=
  ∀ (s t u : State) (a0 a1 : U64) (i : Instr) (n : Nat),
    s.cfg.wf = true → s.hostIn = [] → s.busy = false → (i = .acquire a0 a1 ∨ i = .bringup a0 a1) →
    exec i s = .next t → run n t = .next u →
    ∃ tw ax pins, u.hist = s.hist ++ tw ++ ax ∧ onlyAt s.cfg.twOffsets tw ∧ onlyAt s.cfg.auxOffsets ax ∧
      selectWrites s.cfg tw <+: [2, 3, 4, 5, 6] ∧ (ax ≠ [] → selectWrites s.cfg tw = [2, 3, 4, 5, 6]) ∧
      List.Forall₂ (atAuxPin s.cfg) pins ax ∧ pins.Pairwise (· ≤ ·) ∧ (∀ p ∈ pins, ∀ q < p, q ∈ pins) ∧
      (u.edidValid = true → u.foundTransport = .twoWire →
        ax = [] ∧ (selectWrites s.cfg tw).getLast? = some (zext 32 u.foundPin)) ∧
      (u.edidValid = true → u.foundTransport = .aux → pins.getLast? = some u.foundPin.toNat)

/-! ## The decoder -/

/-- R192 to R195 and R199, with the fields written out from the twelve bytes at `DTD_OFF`: `DC_RUN` writes the nine registers of the
Display Timing Set, the mode table and `TIMING_VALID`, and ends the command; `RESULT_INFO` is the resolution for `DECODE`, where
the block was found for `BRINGUP`. Nothing else changes. The place of each field in the bytes is general knowledge the spec fixes
(K12, log 18). -/
def Obligations.DecoderWritesTheTimingSetOfTheBlock : Prop :=
  ∀ (s : State) (D : Nat → U8) (clk hAct hBlank vAct vBlank hOff hPulse vOff vPulse : U32), s.pc = .dcRun →
    (∀ k, k < 12 → s.edid[s.cfg.dtdOff + k]? = some (D k)) →
    clk = zext 32 (D 0) ||| (zext 32 (D 1) <<< 8) →
    hAct = zext 32 (D 2) ||| (zext 32 (bits 7 4 (D 4)) <<< 8) → hBlank = zext 32 (D 3) ||| (zext 32 (bits 3 0 (D 4)) <<< 8) →
    vAct = zext 32 (D 5) ||| (zext 32 (bits 7 4 (D 7)) <<< 8) → vBlank = zext 32 (D 6) ||| (zext 32 (bits 3 0 (D 7)) <<< 8) →
    hOff = zext 32 (D 8) ||| (zext 32 (bits 7 6 (D 11)) <<< 8) → hPulse = zext 32 (D 9) ||| (zext 32 (bits 5 4 (D 11)) <<< 8) →
    vOff = zext 32 (bits 7 4 (D 10)) ||| (zext 32 (bits 3 2 (D 11)) <<< 4) →
    vPulse = zext 32 (bits 3 0 (D 10)) ||| (zext 32 (bits 1 0 (D 11)) <<< 4) →
    blockStep s = .next { s with
      timing := { pixclkKhz := clk * 10, hActive := hAct, hSyncStart := hAct + hOff, hSyncEnd := hAct + hOff + hPulse, hTotal := hAct + hBlank, vActive := vAct, vSyncStart := vAct + vOff, vSyncEnd := vAct + vOff + vPulse, vTotal := vAct + vBlank }
      timingValid := true, tblHres := hAct, tblVres := vAct, result := .ok, busy := false, pc := .idle
      resultInfo := if s.cmdOp = 0x13 then (s.foundTransport.code <<< 8) ||| zext 32 s.foundPin else (hAct <<< 16) ||| vAct }

/-- `DECODE` from issue to end: two steps, no port access, and a function of the block held alone. -/
def Obligations.DecodeCommandCompletes : Prop :=
  ∀ (s : State) (a0 a1 : U64), s.cfg.wf = true → s.hostIn = [] → s.busy = false → s.edidValid = true →
    ∃ t u, exec (.decode a0 a1) s = .next t ∧ step t = .next u ∧ u.busy = false ∧ u.pc = .idle ∧ u.result = .ok ∧
      u.timingValid = true ∧ u.timing = decodeTiming s.cfg s.edid ∧ u.hist = s.hist ∧ u.edid = s.edid ∧
      u.edidValid = true ∧ u.configured = s.configured ∧ u.mode = s.mode ∧
      u.resultInfo = (u.timing.hActive <<< 16) ||| u.timing.vActive

/-- R198, the round-trip law: each field is where R99 puts it in the twelve bytes, re-encoding the decoded fields gives the bytes
back, for all bytes, and decoding the re-encoding of fields within their widths gives the fields back. The place of each field is
general knowledge the spec fixes (K12, log 18). -/
def Obligations.DescriptorRoundTrip : Prop :=
  (∀ d : DescriptorBytes, unpackDescriptor d =
    { pixclkRaw := zext 32 d.d0 ||| (zext 32 d.d1 <<< 8)
      hActive := zext 32 d.d2 ||| (zext 32 (bits 7 4 d.d4) <<< 8), hBlank := zext 32 d.d3 ||| (zext 32 (bits 3 0 d.d4) <<< 8)
      vActive := zext 32 d.d5 ||| (zext 32 (bits 7 4 d.d7) <<< 8), vBlank := zext 32 d.d6 ||| (zext 32 (bits 3 0 d.d7) <<< 8)
      hSyncOff := zext 32 d.d8 ||| (zext 32 (bits 7 6 d.d11) <<< 8)
      hSyncPulse := zext 32 d.d9 ||| (zext 32 (bits 5 4 d.d11) <<< 8)
      vSyncOff := zext 32 (bits 7 4 d.d10) ||| (zext 32 (bits 3 2 d.d11) <<< 4)
      vSyncPulse := zext 32 (bits 3 0 d.d10) ||| (zext 32 (bits 1 0 d.d11) <<< 4) }) ∧
  (∀ d : DescriptorBytes, packDescriptor (unpackDescriptor d) = d) ∧
  (∀ f : DescriptorFields, f.pixclkRaw.toNat < 65536 → f.hActive.toNat < 4096 → f.hBlank.toNat < 4096 →
    f.vActive.toNat < 4096 → f.vBlank.toNat < 4096 → f.hSyncOff.toNat < 1024 → f.hSyncPulse.toNat < 1024 →
    f.vSyncOff.toNat < 64 → f.vSyncPulse.toNat < 64 → unpackDescriptor (packDescriptor f) = f)

/-- R197: no sum of the decoder can overflow. The bounds of every decoded register, and that each sum is the sum of the
numbers. -/
def Obligations.DecodedTimingIsBounded : Prop :=
  ∀ (c : Cfg) (b : Vector U8 128) (t : TimingSet) (f : DescriptorFields),
    f = unpackDescriptor (descriptorBytes c b) → t = decodeTiming c b →
    t.hSyncEnd.toNat ≤ 6141 ∧ t.hTotal.toNat ≤ 8190 ∧ t.vSyncEnd.toNat ≤ 4221 ∧ t.vTotal.toNat ≤ 8190 ∧
    t.pixclkKhz.toNat ≤ 655350 ∧ t.hActive.toNat ≤ 4095 ∧ t.vActive.toNat ≤ 4095 ∧
    t.hSyncStart.toNat ≤ 5118 ∧ t.vSyncStart.toNat ≤ 4158 ∧
    t.hActive = f.hActive ∧ t.hSyncStart.toNat = f.hActive.toNat + f.hSyncOff.toNat ∧
    t.vActive = f.vActive ∧ t.vSyncStart.toNat = f.vActive.toNat + f.vSyncOff.toNat ∧
    t.hSyncEnd.toNat = f.hActive.toNat + f.hSyncOff.toNat + f.hSyncPulse.toNat ∧
    t.hTotal.toNat = f.hActive.toNat + f.hBlank.toNat ∧
    t.vSyncEnd.toNat = f.vActive.toNat + f.vSyncOff.toNat + f.vSyncPulse.toNat ∧
    t.vTotal.toNat = f.vActive.toNat + f.vBlank.toNat ∧ t.pixclkKhz.toNat = f.pixclkRaw.toNat * 10

/-! ## The Sequencer -/

/-- R212, R213: the sync-shift and timing phases write their words in order, with the whole state. -/
def Obligations.SequencerWritesTheTimingRegisters : Prop :=
  ∀ s : State,
    (s.pc = .apShift → blockStep s = .next { s with pc := .apHtotal, hist := s.hist ++ [.wr32 s.cfg.syncShiftOff 0] }) ∧
    (s.pc = .apHtotal → blockStep s = .next { s with pc := .apHblank, hist := s.hist ++ [.wr32 s.cfg.htotalOff (timingWord s.timing.hActive s.timing.hTotal)] }) ∧
    (s.pc = .apHblank → blockStep s = .next { s with pc := .apHsync, hist := s.hist ++ [.wr32 s.cfg.hblankOff (timingWord s.timing.hActive s.timing.hTotal)] }) ∧
    (s.pc = .apHsync → blockStep s = .next { s with pc := .apVtotal, hist := s.hist ++ [.wr32 s.cfg.hsyncOff (timingWord s.timing.hSyncStart s.timing.hSyncEnd)] }) ∧
    (s.pc = .apVtotal → blockStep s = .next { s with pc := .apVblank, hist := s.hist ++ [.wr32 s.cfg.vtotalOff (timingWord s.timing.vActive s.timing.vTotal)] }) ∧
    (s.pc = .apVblank → blockStep s = .next { s with pc := .apVsync, hist := s.hist ++ [.wr32 s.cfg.vblankOff (timingWord s.timing.vActive s.timing.vTotal)] }) ∧
    (s.pc = .apVsync → blockStep s = .next { s with pc := .apConfRd, hist := s.hist ++ [.wr32 s.cfg.vsyncOff (timingWord s.timing.vSyncStart s.timing.vSyncEnd)] })

/-- R217, R218: the read-modify-write of the pipe-configuration register is two accesses; only the enable bit is set. -/
def Obligations.SequencerEnablesThePipe : Prop :=
  ∀ s : State,
    (s.pc = .apConfRd → ∃ v : U32, (∀ d ds, s.devIn = d :: ds → v = zext 32 d) ∧
      blockStep s = .next { s with confTmp := v, pc := .apConfWr, hist := s.hist ++ [.rd32 s.cfg.pipeconfOff v], devIn := s.devIn.tail, freeCount := s.freeCount + 1 }) ∧
    (s.pc = .apConfWr → blockStep s = .next { s with pc := .apConfPoll, hist := s.hist ++ [.wr32 s.cfg.pipeconfOff (s.confTmp ||| s.cfg.pipeconfEnable)] })

/-- R219: the pipe poll reads until the active bit appears and has no bound. However many values without the bit the device
answers, the block is still polling; the first value with the bit ends the wait. -/
def Obligations.PipePollWaitsForTheActiveBit : Prop :=
  ∀ (s : State) (vs : List U32) (last : U32) (rest : List U64), s.cfg.wf = true → s.hostIn = [] → s.pc = .apConfPoll →
    (∀ v ∈ vs, v &&& s.cfg.pipeconfActive = 0) → s.devIn = answers (vs ++ [last]) ++ rest →
    run vs.length s = .next { s with hist := s.hist ++ reads s.cfg.pipeconfOff vs, devIn := answers [last] ++ rest, freeCount := s.freeCount + vs.length } ∧
    (last &&& s.cfg.pipeconfActive ≠ 0 →
      run (vs.length + 1) s = .next { s with pc := .apPlOffset, hist := s.hist ++ reads s.cfg.pipeconfOff (vs ++ [last]), devIn := rest, freeCount := s.freeCount + vs.length + 1 })

/-- R220 to R224: the plane phases write their words in order, and the last of them writes the Mode/Plane State. -/
def Obligations.SequencerProgramsThePlane : Prop :=
  ∀ s : State,
    (s.pc = .apPlOffset → blockStep s = .next { s with pc := .apPlStride, hist := s.hist ++ [.wr32 s.cfg.planeOffsetOff 0] }) ∧
    (s.pc = .apPlStride → blockStep s = .next { s with pc := .apPlSize, hist := s.hist ++ [.wr32 s.cfg.planeStrideOff (stride s.timing.hActive >>> 6)] }) ∧
    (s.pc = .apPlSize → blockStep s = .next { s with pc := .apPlSurf, hist := s.hist ++ [.wr32 s.cfg.planeSizeOff (timingWord s.timing.hActive s.timing.vActive)] }) ∧
    (s.pc = .apPlSurf → blockStep s = .next { s with pc := .apPlCtl, hist := s.hist ++ [.wr32 s.cfg.planeSurfOff (zext 32 (s.arg0 - s.arg1))] }) ∧
    (s.pc = .apPlCtl → blockStep s = .next { s with mode := { hres := s.timing.hActive, vres := s.timing.vActive, stride := stride s.timing.hActive, fbBase := s.arg0, fbSize := stride s.timing.hActive * s.timing.vActive }, pc := .apPublish, hist := s.hist ++ [.wr32 s.cfg.planeCtlOff s.cfg.planeCtlValue] })

/-- R225, R226: the publish exchange and the one grow request, for every answer of the host, with the whole state. `p` and `g`
are the states after the exchange. -/
def Obligations.PublishGrowsOnceAndElseEnds : Prop :=
  ∀ s : State, ∃ (ans : PublishAnswer) (g : GrowAnswer), ∀ p q : State,
    p = { s with publishIn := s.publishIn.tail, freeCount := s.freeCount + 1, hist := s.hist ++ [.publish { hres := s.mode.hres, vres := s.mode.vres, stride := s.mode.stride, base := s.mode.fbBase, size := s.mode.fbSize, format := .fmt32bppPacked } ans] } →
    q = { s with growIn := s.growIn.tail, freeCount := s.freeCount + 1, grown := true, hist := s.hist ++ [.grow g] } →
    (∀ x xs, s.publishIn = x :: xs → ans = x) ∧ (∀ x xs, s.growIn = x :: xs → g = x) ∧
    (s.pc = .apPublish → ans = .ok →
      blockStep s = .next { p with configured := true, result := .ok, resultInfo := s.mode.stride, busy := false, pc := .idle }) ∧
    (s.pc = .apPublish → ans = .tooSmall → s.grown = false → blockStep s = .next { p with pc := .apGrow }) ∧
    (s.pc = .apPublish → (ans = .error ∨ ans = .tooSmall ∧ s.grown = true) →
      blockStep s = .next { p with result := .publishFailed, resultInfo := 0, busy := false, pc := .idle }) ∧
    (s.pc = .apGrow → g = .ok → blockStep s = .next { q with pc := .apPublish }) ∧
    (s.pc = .apGrow → g = .fail →
      blockStep s = .next { q with result := .resourceExhaustion, resultInfo := 0, busy := false, pc := .idle })

/-- `APPLY` run whole when the pipe becomes active after `polls` and the host answers `CFG_OK`: exactly the accesses of the phases
R212 to R223 in order, the mode published, `CONFIGURED = 1`. With `k` polls these are `14 + k` port accesses, as R227's own list,
R228 and the programs P1 and P4 have it; where R227, R229 and R290 say `15 + k` the model follows the phases (log 25). `HIST`
gains these and the one publish exchange, which is no port access. -/
def Obligations.ApplyProgramsTheWholeModeInOrder : Prop :=
  ∀ (s : State) (a0 a1 : U64) (c0 last : U32) (polls : List U32) (rest : List U64) (prest : List PublishAnswer),
    s.cfg.wf = true → s.hostIn = [] → s.busy = false → s.timingValid = true → apertureOk a0 a1 = true →
    (∀ v ∈ polls, v &&& s.cfg.pipeconfActive = 0) → last &&& s.cfg.pipeconfActive ≠ 0 →
    s.devIn = answers ([c0] ++ polls ++ [last]) ++ rest → s.publishIn = .ok :: prest →
    ∃ t u, exec (.apply a0 a1) s = .next t ∧ run (16 + polls.length) t = .next u ∧
      u.busy = false ∧ u.pc = .idle ∧ u.configured = true ∧ u.result = .ok ∧ u.resultInfo = stride s.timing.hActive ∧
      u.mode = modeOf s.timing a0 ∧ u.timing = s.timing ∧ u.devIn = rest ∧ u.publishIn = prest ∧
      u.hist.length = s.hist.length + 16 + polls.length ∧
      u.hist = s.hist ++
        [.wr32 s.cfg.syncShiftOff 0,
         .wr32 s.cfg.htotalOff (timingWord s.timing.hActive s.timing.hTotal),
         .wr32 s.cfg.hblankOff (timingWord s.timing.hActive s.timing.hTotal),
         .wr32 s.cfg.hsyncOff (timingWord s.timing.hSyncStart s.timing.hSyncEnd),
         .wr32 s.cfg.vtotalOff (timingWord s.timing.vActive s.timing.vTotal),
         .wr32 s.cfg.vblankOff (timingWord s.timing.vActive s.timing.vTotal),
         .wr32 s.cfg.vsyncOff (timingWord s.timing.vSyncStart s.timing.vSyncEnd),
         .rd32 s.cfg.pipeconfOff c0, .wr32 s.cfg.pipeconfOff (c0 ||| s.cfg.pipeconfEnable)] ++
        reads s.cfg.pipeconfOff (polls ++ [last]) ++
        [.wr32 s.cfg.planeOffsetOff 0, .wr32 s.cfg.planeStrideOff (stride s.timing.hActive >>> 6),
         .wr32 s.cfg.planeSizeOff (timingWord s.timing.hActive s.timing.vActive),
         .wr32 s.cfg.planeSurfOff (zext 32 (a0 - a1)), .wr32 s.cfg.planeCtlOff s.cfg.planeCtlValue,
         .publish { hres := s.timing.hActive, vres := s.timing.vActive, stride := stride s.timing.hActive, base := a0,
                    size := stride s.timing.hActive * s.timing.vActive, format := .fmt32bppPacked } .ok]

/-- R233: `MODE_QUERY` from issue to end, with the whole state: the mode table packed, no port access. -/
def Obligations.ModeQueryReportsTheModeTable : Prop :=
  ∀ (s : State) (a0 a1 : U64), s.cfg.wf = true → s.hostIn = [] → s.busy = false →
    decodeCommand ⟨0x00000031, a0, a1⟩ = .ok (.modeQuery a0 a1) ∧
    ∃ t, exec (.modeQuery a0 a1) s = .next t ∧
      t = { s with cmdOp := 0x31, cmdPin := 0, arg0 := a0, arg1 := a1, busy := true, pc := .mqRun } ∧
      step t = .next { t with result := .ok, resultInfo := (s.tblHres <<< 16) ||| (s.tblVres &&& 0xFFFF), busy := false, pc := .idle }

/-! ## The words -/

/-- R104: the two halves of a timing word, and what the wrap at 0 gives. -/
def Obligations.TimingWordHalves : Prop :=
  ∀ a b : U32,
    (1 ≤ a.toNat → a.toNat ≤ 65536 → 1 ≤ b.toNat → b.toNat ≤ 65536 →
      (bits 15 0 (timingWord a b)).toNat = a.toNat - 1 ∧ (bits 31 16 (timingWord a b)).toNat = b.toNat - 1) ∧
    timingWord 0 b = 0xFFFFFFFF ∧ bits 31 16 (timingWord a 0) = 0xFFFF ∧
    timingWord a b = (a - 1) ||| ((b - 1) <<< 16)

/-- R107: the stride is `h * 4` rounded up to a multiple of 64. -/
def Obligations.StrideRoundsUpToSixtyFour : Prop :=
  (∀ h : U32, h.toNat * 4 + 63 < 2 ^ 32 →
    (stride h).toNat % 64 = 0 ∧ (stride h).toNat ≥ h.toNat * 4 ∧ (stride h).toNat < h.toNat * 4 + 64 ∧
    (planeStrideWord h).toNat * 64 = (stride h).toNat) ∧
  stride 0 = 0

/-- R90, R92, R93, R94: the fields of the auxiliary words: the header, the request bytes big-endian in *data1* and *data2*, the
start word, the clearing word. -/
def Obligations.AuxWordFields : Prop :=
  (∀ (op : BitVec 4) (addr : U16) (len b : U8),
    bits 31 28 (auxHdr op addr len) = op ∧ bits 27 24 (auxHdr op addr len) = 0 ∧
    bits 23 8 (auxHdr op addr len) = addr ∧ bits 7 0 (auxHdr op addr len) = len ∧
    auxRequestByte (auxHdr op addr len) (auxDataWord b) 0 = zext 8 op <<< 4 ∧
    auxRequestByte (auxHdr op addr len) (auxDataWord b) 1 = bits 15 8 addr ∧
    auxRequestByte (auxHdr op addr len) (auxDataWord b) 2 = bits 7 0 addr ∧
    auxRequestByte (auxHdr op addr len) (auxDataWord b) 3 = len ∧
    auxRequestByte (auxHdr op addr len) (auxDataWord b) 4 = b) ∧
  (∀ (c : Cfg) (size : BitVec 5), c.wf = true →
    bits 24 20 (auxStart c size) = size ∧ (auxStart c size).getLsbD 31 = true ∧ (auxStart c size).getLsbD 30 = true ∧
    (auxStart c size).getLsbD 28 = true ∧ (auxStart c size).getLsbD 25 = true ∧
    auxStart c size &&& ~~~(0xD3F00000 : U32) = c.auxCtlTuning) ∧
  (∀ (st : U32) (i : Nat), (auxClear st).getLsbD i = (st.getLsbD i || i == 30 || i == 28 || i == 25))

/-! ## The whole machine -/

/-- The invariant holds after reset. Its values for the registers R53 leaves unspecified are the model's (log 8). -/
def Obligations.ResetMeetsTheInvariant : Prop := State.reset.Inv

/-- Every step keeps the invariant, whatever the host does and the device answers. -/
def Obligations.EveryStepKeepsTheInvariant : Prop :=
  ∀ s t : State, s.Inv → step s = .next t → t.Inv

/-- Under the invariant the machine always has a step, unless the host's move is one the spec gives no meaning: no phase and no
command gets stuck, and no step faults. Two choices of the model are in it: in `IDLE` with no host move the state stays (log 7), and
a result code comes before a refusal (log 10). -/
def Obligations.MachineAlwaysHasAStep : Prop :=
  ∀ s : State, s.Inv → s.hostMoveHasMeaning → ∃ t, step s = .next t

/-- R23, R66: a step adds at most one event to `HIST` and takes none away, but for a `RESET` in a model that starts a new
history. -/
def Obligations.StepAddsAtMostOneEvent : Prop :=
  ∀ s t : State, step s = .next t →
    (∃ es : List Event, es.length ≤ 1 ∧ t.hist = s.hist ++ es) ∨
    (s.cfg.histKept = false ∧ (∃ rest, s.hostIn = .reset :: rest) ∧ t.hist = [])

/-- R112: outside `PORT_WR32`, every word the machine writes is one of those R112 lists, at its own register. -/
def Obligations.BlockWritesOnlyItsOwnWords : Prop :=
  ∀ (s t : State) (off v : U32), s.Inv → step s = .next t → t.hist = s.hist ++ [.wr32 off v] → s.pc ≠ .ptWr32 →
    BlockWrites s off v

/-- Each data register has the writers the spec names (R26 to R31, R124), and the configuration has none (R21). Where the block was
found changes at the end of a complete attempt only, together with `EDID_VALID <- 1`. -/
def Obligations.RegistersChangeOnlyInTheirOwnPhase : Prop :=
  ∀ s t : State, step s = .next t → (∀ rest, s.hostIn ≠ .reset :: rest) →
    (t.edid ≠ s.edid → s.pc = .twRdWord ∨ s.pc = .axFetch) ∧
    (t.timing ≠ s.timing → s.pc = .dcRun) ∧
    (t.tblHres ≠ s.tblHres ∨ t.tblVres ≠ s.tblVres → s.pc = .dcRun) ∧
    (t.mode ≠ s.mode → s.pc = .apPlCtl) ∧
    (t.rdata ≠ s.rdata → s.pc = .ptRd32 ∨ s.pc = .ptRd64) ∧
    (t.configured ≠ s.configured → s.pc = .apPublish ∧ t.configured = true) ∧
    (s.edidValid = false → t.edidValid = true → magic s.edid = true ∧ (s.pc = .twCheck ∨ s.pc = .axCheck)) ∧
    (t.foundTransport ≠ s.foundTransport ∨ t.foundPin ≠ s.foundPin →
      t.edidValid = true ∧ t.foundPin = s.pin ∧
      (s.pc = .twCheck ∧ t.foundTransport = .twoWire ∨ s.pc = .axCheck ∧ t.foundTransport = .aux)) ∧
    (s.timingValid = false → t.timingValid = true → s.pc = .dcRun) ∧
    t.cfg = s.cfg

/-- R242: the codes 8 to 11 are surfaced by the single-attempt commands only. -/
def Obligations.LocalOutcomesAreNotSurfacedBySearches : Prop :=
  ∀ s t : State, step s = .next t → t.result ≠ s.result → 8 ≤ t.result.code.toNat →
    s.cmdOp = 0x10 ∨ s.cmdOp = 0x11

/-- What the host may read, and the value (R25 to R31, U8; log 16: the list is read from the host column): while a command runs only
`BUSY`; else also the result registers and the flags; the block and where it was found, the timing set and the Mode/Plane State
under their flags and only then; the control registers never. A read changes nothing, and a read of anything else has no step. -/
def Obligations.HostReadsOnlyWhatHoldsAValue : Prop :=
  ∀ (s : State) (r : HostReg),
    (s.busy = true → (hostRead s r ≠ none ↔ r = .busy)) ∧
    (s.edidValid = false → hostRead s .foundPin = none ∧ hostRead s .foundTransport = none ∧ ∀ i, hostRead s (.edid i) = none) ∧
    (s.timingValid = false → ∀ x, hostRead s (.timing x) = none) ∧
    (s.configured = false → ∀ x, hostRead s (.mode x) = none) ∧
    (∀ x, hostRead s (.hidden x) = none) ∧
    hostRead s .busy = some (.word (if s.busy then 1 else 0)) ∧
    (s.busy = false →
      hostRead s .result = some (.word (zext 64 s.result.code)) ∧ hostRead s .resultInfo = some (.word (zext 64 s.resultInfo)) ∧
      hostRead s .rdata = some (.word s.rdata) ∧ hostRead s .edidValid = some (.word (if s.edidValid then 1 else 0)) ∧
      hostRead s .timingValid = some (.word (if s.timingValid then 1 else 0)) ∧
      hostRead s .configured = some (.word (if s.configured then 1 else 0))) ∧
    (s.busy = false → s.edidValid = true →
      (∀ i : Fin 128, hostRead s (.edid i) = some (.word (zext 64 s.edid[i.val]))) ∧
      hostRead s .foundTransport = some (.word (if s.foundTransport = .aux then 1 else 0)) ∧
      hostRead s .foundPin = some (.word (zext 64 s.foundPin))) ∧
    (s.busy = false → s.timingValid = true →
      hostRead s (.timing .pixclkKhz) = some (.word (zext 64 s.timing.pixclkKhz)) ∧
      hostRead s (.timing .hActive) = some (.word (zext 64 s.timing.hActive)) ∧
      hostRead s (.timing .hSyncStart) = some (.word (zext 64 s.timing.hSyncStart)) ∧
      hostRead s (.timing .hSyncEnd) = some (.word (zext 64 s.timing.hSyncEnd)) ∧
      hostRead s (.timing .hTotal) = some (.word (zext 64 s.timing.hTotal)) ∧
      hostRead s (.timing .vActive) = some (.word (zext 64 s.timing.vActive)) ∧
      hostRead s (.timing .vSyncStart) = some (.word (zext 64 s.timing.vSyncStart)) ∧
      hostRead s (.timing .vSyncEnd) = some (.word (zext 64 s.timing.vSyncEnd)) ∧
      hostRead s (.timing .vTotal) = some (.word (zext 64 s.timing.vTotal))) ∧
    (s.busy = false → s.configured = true →
      hostRead s (.mode .hres) = some (.word (zext 64 s.mode.hres)) ∧
      hostRead s (.mode .vres) = some (.word (zext 64 s.mode.vres)) ∧
      hostRead s (.mode .stride) = some (.word (zext 64 s.mode.stride)) ∧
      hostRead s (.mode .fbBase) = some (.word s.mode.fbBase) ∧
      hostRead s (.mode .fbSize) = some (.word (zext 64 s.mode.fbSize)) ∧
      hostRead s (.mode .format) = some (.format .fmt32bppPacked)) ∧
    (∀ rest, s.cfg.wf = true → s.hostIn = .read r :: rest →
      step s = if hostRead s r = none then .refused .unreadableRegister else .next { s with hostIn := rest })
end

