-- ==== Sys2Proof/Laws/State.lean ====
section
/-! SUPPORT. One lemma per field of the state per update, true by unfolding, so that no later proof unfolds a record update. -/

namespace Sys2Proof.Machine

variable (s : State)

@[simp] theorem State.log_cfg (e : Event) : (s.log e).cfg = s.cfg := rfl
@[simp] theorem State.log_pc (e : Event) : (s.log e).pc = s.pc := rfl
@[simp] theorem State.log_busy (e : Event) : (s.log e).busy = s.busy := rfl
@[simp] theorem State.log_result (e : Event) : (s.log e).result = s.result := rfl
@[simp] theorem State.log_resultInfo (e : Event) : (s.log e).resultInfo = s.resultInfo := rfl
@[simp] theorem State.log_rdata (e : Event) : (s.log e).rdata = s.rdata := rfl
@[simp] theorem State.log_cmdOp (e : Event) : (s.log e).cmdOp = s.cmdOp := rfl
@[simp] theorem State.log_cmdPin (e : Event) : (s.log e).cmdPin = s.cmdPin := rfl
@[simp] theorem State.log_arg0 (e : Event) : (s.log e).arg0 = s.arg0 := rfl
@[simp] theorem State.log_arg1 (e : Event) : (s.log e).arg1 = s.arg1 := rfl
@[simp] theorem State.log_pin (e : Event) : (s.log e).pin = s.pin := rfl
@[simp] theorem State.log_idx (e : Event) : (s.log e).idx = s.idx := rfl
@[simp] theorem State.log_polls (e : Event) : (s.log e).polls = s.polls := rfl
@[simp] theorem State.log_auxSt (e : Event) : (s.log e).auxSt = s.auxSt := rfl
@[simp] theorem State.log_auxOp (e : Event) : (s.log e).auxOp = s.auxOp := rfl
@[simp] theorem State.log_twShort (e : Event) : (s.log e).twShort = s.twShort := rfl
@[simp] theorem State.log_confTmp (e : Event) : (s.log e).confTmp = s.confTmp := rfl
@[simp] theorem State.log_grown (e : Event) : (s.log e).grown = s.grown := rfl
@[simp] theorem State.log_edidValid (e : Event) : (s.log e).edidValid = s.edidValid := rfl
@[simp] theorem State.log_timingValid (e : Event) : (s.log e).timingValid = s.timingValid := rfl
@[simp] theorem State.log_configured (e : Event) : (s.log e).configured = s.configured := rfl
@[simp] theorem State.log_edid (e : Event) : (s.log e).edid = s.edid := rfl
@[simp] theorem State.log_foundTransport (e : Event) : (s.log e).foundTransport = s.foundTransport := rfl
@[simp] theorem State.log_foundPin (e : Event) : (s.log e).foundPin = s.foundPin := rfl
@[simp] theorem State.log_timing (e : Event) : (s.log e).timing = s.timing := rfl
@[simp] theorem State.log_tblHres (e : Event) : (s.log e).tblHres = s.tblHres := rfl
@[simp] theorem State.log_tblVres (e : Event) : (s.log e).tblVres = s.tblVres := rfl
@[simp] theorem State.log_mode (e : Event) : (s.log e).mode = s.mode := rfl
@[simp] theorem State.log_hist (e : Event) : (s.log e).hist = s.hist ++ [e] := rfl
@[simp] theorem State.log_hostIn (e : Event) : (s.log e).hostIn = s.hostIn := rfl
@[simp] theorem State.log_devIn (e : Event) : (s.log e).devIn = s.devIn := rfl
@[simp] theorem State.log_publishIn (e : Event) : (s.log e).publishIn = s.publishIn := rfl
@[simp] theorem State.log_growIn (e : Event) : (s.log e).growIn = s.growIn := rfl
@[simp] theorem State.log_freeCount (e : Event) : (s.log e).freeCount = s.freeCount := rfl

@[simp] theorem State.goto_cfg (p : Phase) : (s.goto p).cfg = s.cfg := rfl
@[simp] theorem State.goto_pc (p : Phase) : (s.goto p).pc = p := rfl
@[simp] theorem State.goto_busy (p : Phase) : (s.goto p).busy = s.busy := rfl
@[simp] theorem State.goto_result (p : Phase) : (s.goto p).result = s.result := rfl
@[simp] theorem State.goto_resultInfo (p : Phase) : (s.goto p).resultInfo = s.resultInfo := rfl
@[simp] theorem State.goto_rdata (p : Phase) : (s.goto p).rdata = s.rdata := rfl
@[simp] theorem State.goto_cmdOp (p : Phase) : (s.goto p).cmdOp = s.cmdOp := rfl
@[simp] theorem State.goto_cmdPin (p : Phase) : (s.goto p).cmdPin = s.cmdPin := rfl
@[simp] theorem State.goto_arg0 (p : Phase) : (s.goto p).arg0 = s.arg0 := rfl
@[simp] theorem State.goto_arg1 (p : Phase) : (s.goto p).arg1 = s.arg1 := rfl
@[simp] theorem State.goto_pin (p : Phase) : (s.goto p).pin = s.pin := rfl
@[simp] theorem State.goto_idx (p : Phase) : (s.goto p).idx = s.idx := rfl
@[simp] theorem State.goto_polls (p : Phase) : (s.goto p).polls = s.polls := rfl
@[simp] theorem State.goto_auxSt (p : Phase) : (s.goto p).auxSt = s.auxSt := rfl
@[simp] theorem State.goto_auxOp (p : Phase) : (s.goto p).auxOp = s.auxOp := rfl
@[simp] theorem State.goto_twShort (p : Phase) : (s.goto p).twShort = s.twShort := rfl
@[simp] theorem State.goto_confTmp (p : Phase) : (s.goto p).confTmp = s.confTmp := rfl
@[simp] theorem State.goto_grown (p : Phase) : (s.goto p).grown = s.grown := rfl
@[simp] theorem State.goto_edidValid (p : Phase) : (s.goto p).edidValid = s.edidValid := rfl
@[simp] theorem State.goto_timingValid (p : Phase) : (s.goto p).timingValid = s.timingValid := rfl
@[simp] theorem State.goto_configured (p : Phase) : (s.goto p).configured = s.configured := rfl
@[simp] theorem State.goto_edid (p : Phase) : (s.goto p).edid = s.edid := rfl
@[simp] theorem State.goto_foundTransport (p : Phase) : (s.goto p).foundTransport = s.foundTransport := rfl
@[simp] theorem State.goto_foundPin (p : Phase) : (s.goto p).foundPin = s.foundPin := rfl
@[simp] theorem State.goto_timing (p : Phase) : (s.goto p).timing = s.timing := rfl
@[simp] theorem State.goto_tblHres (p : Phase) : (s.goto p).tblHres = s.tblHres := rfl
@[simp] theorem State.goto_tblVres (p : Phase) : (s.goto p).tblVres = s.tblVres := rfl
@[simp] theorem State.goto_mode (p : Phase) : (s.goto p).mode = s.mode := rfl
@[simp] theorem State.goto_hist (p : Phase) : (s.goto p).hist = s.hist := rfl
@[simp] theorem State.goto_hostIn (p : Phase) : (s.goto p).hostIn = s.hostIn := rfl
@[simp] theorem State.goto_devIn (p : Phase) : (s.goto p).devIn = s.devIn := rfl
@[simp] theorem State.goto_publishIn (p : Phase) : (s.goto p).publishIn = s.publishIn := rfl
@[simp] theorem State.goto_growIn (p : Phase) : (s.goto p).growIn = s.growIn := rfl
@[simp] theorem State.goto_freeCount (p : Phase) : (s.goto p).freeCount = s.freeCount := rfl

@[simp] theorem State.deviceAnswered_cfg : (s.deviceAnswered).cfg = s.cfg := rfl
@[simp] theorem State.deviceAnswered_pc : (s.deviceAnswered).pc = s.pc := rfl
@[simp] theorem State.deviceAnswered_busy : (s.deviceAnswered).busy = s.busy := rfl
@[simp] theorem State.deviceAnswered_result : (s.deviceAnswered).result = s.result := rfl
@[simp] theorem State.deviceAnswered_resultInfo : (s.deviceAnswered).resultInfo = s.resultInfo := rfl
@[simp] theorem State.deviceAnswered_rdata : (s.deviceAnswered).rdata = s.rdata := rfl
@[simp] theorem State.deviceAnswered_cmdOp : (s.deviceAnswered).cmdOp = s.cmdOp := rfl
@[simp] theorem State.deviceAnswered_cmdPin : (s.deviceAnswered).cmdPin = s.cmdPin := rfl
@[simp] theorem State.deviceAnswered_arg0 : (s.deviceAnswered).arg0 = s.arg0 := rfl
@[simp] theorem State.deviceAnswered_arg1 : (s.deviceAnswered).arg1 = s.arg1 := rfl
@[simp] theorem State.deviceAnswered_pin : (s.deviceAnswered).pin = s.pin := rfl
@[simp] theorem State.deviceAnswered_idx : (s.deviceAnswered).idx = s.idx := rfl
@[simp] theorem State.deviceAnswered_polls : (s.deviceAnswered).polls = s.polls := rfl
@[simp] theorem State.deviceAnswered_auxSt : (s.deviceAnswered).auxSt = s.auxSt := rfl
@[simp] theorem State.deviceAnswered_auxOp : (s.deviceAnswered).auxOp = s.auxOp := rfl
@[simp] theorem State.deviceAnswered_twShort : (s.deviceAnswered).twShort = s.twShort := rfl
@[simp] theorem State.deviceAnswered_confTmp : (s.deviceAnswered).confTmp = s.confTmp := rfl
@[simp] theorem State.deviceAnswered_grown : (s.deviceAnswered).grown = s.grown := rfl
@[simp] theorem State.deviceAnswered_edidValid : (s.deviceAnswered).edidValid = s.edidValid := rfl
@[simp] theorem State.deviceAnswered_timingValid : (s.deviceAnswered).timingValid = s.timingValid := rfl
@[simp] theorem State.deviceAnswered_configured : (s.deviceAnswered).configured = s.configured := rfl
@[simp] theorem State.deviceAnswered_edid : (s.deviceAnswered).edid = s.edid := rfl
@[simp] theorem State.deviceAnswered_foundTransport : (s.deviceAnswered).foundTransport = s.foundTransport := rfl
@[simp] theorem State.deviceAnswered_foundPin : (s.deviceAnswered).foundPin = s.foundPin := rfl
@[simp] theorem State.deviceAnswered_timing : (s.deviceAnswered).timing = s.timing := rfl
@[simp] theorem State.deviceAnswered_tblHres : (s.deviceAnswered).tblHres = s.tblHres := rfl
@[simp] theorem State.deviceAnswered_tblVres : (s.deviceAnswered).tblVres = s.tblVres := rfl
@[simp] theorem State.deviceAnswered_mode : (s.deviceAnswered).mode = s.mode := rfl
@[simp] theorem State.deviceAnswered_hist : (s.deviceAnswered).hist = s.hist := rfl
@[simp] theorem State.deviceAnswered_hostIn : (s.deviceAnswered).hostIn = s.hostIn := rfl
@[simp] theorem State.deviceAnswered_devIn : (s.deviceAnswered).devIn = s.devIn.tail := rfl
@[simp] theorem State.deviceAnswered_publishIn : (s.deviceAnswered).publishIn = s.publishIn := rfl
@[simp] theorem State.deviceAnswered_growIn : (s.deviceAnswered).growIn = s.growIn := rfl
@[simp] theorem State.deviceAnswered_freeCount : (s.deviceAnswered).freeCount = s.freeCount + 1 := rfl

@[simp] theorem State.read32_cfg (off : U32) : (s.read32 off).cfg = s.cfg := rfl
@[simp] theorem State.read32_pc (off : U32) : (s.read32 off).pc = s.pc := rfl
@[simp] theorem State.read32_busy (off : U32) : (s.read32 off).busy = s.busy := rfl
@[simp] theorem State.read32_result (off : U32) : (s.read32 off).result = s.result := rfl
@[simp] theorem State.read32_resultInfo (off : U32) : (s.read32 off).resultInfo = s.resultInfo := rfl
@[simp] theorem State.read32_rdata (off : U32) : (s.read32 off).rdata = s.rdata := rfl
@[simp] theorem State.read32_cmdOp (off : U32) : (s.read32 off).cmdOp = s.cmdOp := rfl
@[simp] theorem State.read32_cmdPin (off : U32) : (s.read32 off).cmdPin = s.cmdPin := rfl
@[simp] theorem State.read32_arg0 (off : U32) : (s.read32 off).arg0 = s.arg0 := rfl
@[simp] theorem State.read32_arg1 (off : U32) : (s.read32 off).arg1 = s.arg1 := rfl
@[simp] theorem State.read32_pin (off : U32) : (s.read32 off).pin = s.pin := rfl
@[simp] theorem State.read32_idx (off : U32) : (s.read32 off).idx = s.idx := rfl
@[simp] theorem State.read32_polls (off : U32) : (s.read32 off).polls = s.polls := rfl
@[simp] theorem State.read32_auxSt (off : U32) : (s.read32 off).auxSt = s.auxSt := rfl
@[simp] theorem State.read32_auxOp (off : U32) : (s.read32 off).auxOp = s.auxOp := rfl
@[simp] theorem State.read32_twShort (off : U32) : (s.read32 off).twShort = s.twShort := rfl
@[simp] theorem State.read32_confTmp (off : U32) : (s.read32 off).confTmp = s.confTmp := rfl
@[simp] theorem State.read32_grown (off : U32) : (s.read32 off).grown = s.grown := rfl
@[simp] theorem State.read32_edidValid (off : U32) : (s.read32 off).edidValid = s.edidValid := rfl
@[simp] theorem State.read32_timingValid (off : U32) : (s.read32 off).timingValid = s.timingValid := rfl
@[simp] theorem State.read32_configured (off : U32) : (s.read32 off).configured = s.configured := rfl
@[simp] theorem State.read32_edid (off : U32) : (s.read32 off).edid = s.edid := rfl
@[simp] theorem State.read32_foundTransport (off : U32) : (s.read32 off).foundTransport = s.foundTransport := rfl
@[simp] theorem State.read32_foundPin (off : U32) : (s.read32 off).foundPin = s.foundPin := rfl
@[simp] theorem State.read32_timing (off : U32) : (s.read32 off).timing = s.timing := rfl
@[simp] theorem State.read32_tblHres (off : U32) : (s.read32 off).tblHres = s.tblHres := rfl
@[simp] theorem State.read32_tblVres (off : U32) : (s.read32 off).tblVres = s.tblVres := rfl
@[simp] theorem State.read32_mode (off : U32) : (s.read32 off).mode = s.mode := rfl
@[simp] theorem State.read32_hist (off : U32) : (s.read32 off).hist = s.hist ++ [.rd32 off (s.read32Value off)] := rfl
@[simp] theorem State.read32_hostIn (off : U32) : (s.read32 off).hostIn = s.hostIn := rfl
@[simp] theorem State.read32_devIn (off : U32) : (s.read32 off).devIn = s.devIn.tail := rfl
@[simp] theorem State.read32_publishIn (off : U32) : (s.read32 off).publishIn = s.publishIn := rfl
@[simp] theorem State.read32_growIn (off : U32) : (s.read32 off).growIn = s.growIn := rfl
@[simp] theorem State.read32_freeCount (off : U32) : (s.read32 off).freeCount = s.freeCount + 1 := rfl

@[simp] theorem State.read64_cfg (off : U32) : (s.read64 off).cfg = s.cfg := rfl
@[simp] theorem State.read64_pc (off : U32) : (s.read64 off).pc = s.pc := rfl
@[simp] theorem State.read64_busy (off : U32) : (s.read64 off).busy = s.busy := rfl
@[simp] theorem State.read64_result (off : U32) : (s.read64 off).result = s.result := rfl
@[simp] theorem State.read64_resultInfo (off : U32) : (s.read64 off).resultInfo = s.resultInfo := rfl
@[simp] theorem State.read64_rdata (off : U32) : (s.read64 off).rdata = s.rdata := rfl
@[simp] theorem State.read64_cmdOp (off : U32) : (s.read64 off).cmdOp = s.cmdOp := rfl
@[simp] theorem State.read64_cmdPin (off : U32) : (s.read64 off).cmdPin = s.cmdPin := rfl
@[simp] theorem State.read64_arg0 (off : U32) : (s.read64 off).arg0 = s.arg0 := rfl
@[simp] theorem State.read64_arg1 (off : U32) : (s.read64 off).arg1 = s.arg1 := rfl
@[simp] theorem State.read64_pin (off : U32) : (s.read64 off).pin = s.pin := rfl
@[simp] theorem State.read64_idx (off : U32) : (s.read64 off).idx = s.idx := rfl
@[simp] theorem State.read64_polls (off : U32) : (s.read64 off).polls = s.polls := rfl
@[simp] theorem State.read64_auxSt (off : U32) : (s.read64 off).auxSt = s.auxSt := rfl
@[simp] theorem State.read64_auxOp (off : U32) : (s.read64 off).auxOp = s.auxOp := rfl
@[simp] theorem State.read64_twShort (off : U32) : (s.read64 off).twShort = s.twShort := rfl
@[simp] theorem State.read64_confTmp (off : U32) : (s.read64 off).confTmp = s.confTmp := rfl
@[simp] theorem State.read64_grown (off : U32) : (s.read64 off).grown = s.grown := rfl
@[simp] theorem State.read64_edidValid (off : U32) : (s.read64 off).edidValid = s.edidValid := rfl
@[simp] theorem State.read64_timingValid (off : U32) : (s.read64 off).timingValid = s.timingValid := rfl
@[simp] theorem State.read64_configured (off : U32) : (s.read64 off).configured = s.configured := rfl
@[simp] theorem State.read64_edid (off : U32) : (s.read64 off).edid = s.edid := rfl
@[simp] theorem State.read64_foundTransport (off : U32) : (s.read64 off).foundTransport = s.foundTransport := rfl
@[simp] theorem State.read64_foundPin (off : U32) : (s.read64 off).foundPin = s.foundPin := rfl
@[simp] theorem State.read64_timing (off : U32) : (s.read64 off).timing = s.timing := rfl
@[simp] theorem State.read64_tblHres (off : U32) : (s.read64 off).tblHres = s.tblHres := rfl
@[simp] theorem State.read64_tblVres (off : U32) : (s.read64 off).tblVres = s.tblVres := rfl
@[simp] theorem State.read64_mode (off : U32) : (s.read64 off).mode = s.mode := rfl
@[simp] theorem State.read64_hist (off : U32) : (s.read64 off).hist = s.hist ++ [.rd64 off (s.read64Value off)] := rfl
@[simp] theorem State.read64_hostIn (off : U32) : (s.read64 off).hostIn = s.hostIn := rfl
@[simp] theorem State.read64_devIn (off : U32) : (s.read64 off).devIn = s.devIn.tail := rfl
@[simp] theorem State.read64_publishIn (off : U32) : (s.read64 off).publishIn = s.publishIn := rfl
@[simp] theorem State.read64_growIn (off : U32) : (s.read64 off).growIn = s.growIn := rfl
@[simp] theorem State.read64_freeCount (off : U32) : (s.read64 off).freeCount = s.freeCount + 1 := rfl

@[simp] theorem State.write32_cfg (off v : U32) : (s.write32 off v).cfg = s.cfg := rfl
@[simp] theorem State.write32_pc (off v : U32) : (s.write32 off v).pc = s.pc := rfl
@[simp] theorem State.write32_busy (off v : U32) : (s.write32 off v).busy = s.busy := rfl
@[simp] theorem State.write32_result (off v : U32) : (s.write32 off v).result = s.result := rfl
@[simp] theorem State.write32_resultInfo (off v : U32) : (s.write32 off v).resultInfo = s.resultInfo := rfl
@[simp] theorem State.write32_rdata (off v : U32) : (s.write32 off v).rdata = s.rdata := rfl
@[simp] theorem State.write32_cmdOp (off v : U32) : (s.write32 off v).cmdOp = s.cmdOp := rfl
@[simp] theorem State.write32_cmdPin (off v : U32) : (s.write32 off v).cmdPin = s.cmdPin := rfl
@[simp] theorem State.write32_arg0 (off v : U32) : (s.write32 off v).arg0 = s.arg0 := rfl
@[simp] theorem State.write32_arg1 (off v : U32) : (s.write32 off v).arg1 = s.arg1 := rfl
@[simp] theorem State.write32_pin (off v : U32) : (s.write32 off v).pin = s.pin := rfl
@[simp] theorem State.write32_idx (off v : U32) : (s.write32 off v).idx = s.idx := rfl
@[simp] theorem State.write32_polls (off v : U32) : (s.write32 off v).polls = s.polls := rfl
@[simp] theorem State.write32_auxSt (off v : U32) : (s.write32 off v).auxSt = s.auxSt := rfl
@[simp] theorem State.write32_auxOp (off v : U32) : (s.write32 off v).auxOp = s.auxOp := rfl
@[simp] theorem State.write32_twShort (off v : U32) : (s.write32 off v).twShort = s.twShort := rfl
@[simp] theorem State.write32_confTmp (off v : U32) : (s.write32 off v).confTmp = s.confTmp := rfl
@[simp] theorem State.write32_grown (off v : U32) : (s.write32 off v).grown = s.grown := rfl
@[simp] theorem State.write32_edidValid (off v : U32) : (s.write32 off v).edidValid = s.edidValid := rfl
@[simp] theorem State.write32_timingValid (off v : U32) : (s.write32 off v).timingValid = s.timingValid := rfl
@[simp] theorem State.write32_configured (off v : U32) : (s.write32 off v).configured = s.configured := rfl
@[simp] theorem State.write32_edid (off v : U32) : (s.write32 off v).edid = s.edid := rfl
@[simp] theorem State.write32_foundTransport (off v : U32) : (s.write32 off v).foundTransport = s.foundTransport := rfl
@[simp] theorem State.write32_foundPin (off v : U32) : (s.write32 off v).foundPin = s.foundPin := rfl
@[simp] theorem State.write32_timing (off v : U32) : (s.write32 off v).timing = s.timing := rfl
@[simp] theorem State.write32_tblHres (off v : U32) : (s.write32 off v).tblHres = s.tblHres := rfl
@[simp] theorem State.write32_tblVres (off v : U32) : (s.write32 off v).tblVres = s.tblVres := rfl
@[simp] theorem State.write32_mode (off v : U32) : (s.write32 off v).mode = s.mode := rfl
@[simp] theorem State.write32_hist (off v : U32) : (s.write32 off v).hist = s.hist ++ [.wr32 off v] := rfl
@[simp] theorem State.write32_hostIn (off v : U32) : (s.write32 off v).hostIn = s.hostIn := rfl
@[simp] theorem State.write32_devIn (off v : U32) : (s.write32 off v).devIn = s.devIn := rfl
@[simp] theorem State.write32_publishIn (off v : U32) : (s.write32 off v).publishIn = s.publishIn := rfl
@[simp] theorem State.write32_growIn (off v : U32) : (s.write32 off v).growIn = s.growIn := rfl
@[simp] theorem State.write32_freeCount (off v : U32) : (s.write32 off v).freeCount = s.freeCount := rfl

@[simp] theorem State.publish_cfg : (s.publish).cfg = s.cfg := rfl
@[simp] theorem State.publish_pc : (s.publish).pc = s.pc := rfl
@[simp] theorem State.publish_busy : (s.publish).busy = s.busy := rfl
@[simp] theorem State.publish_result : (s.publish).result = s.result := rfl
@[simp] theorem State.publish_resultInfo : (s.publish).resultInfo = s.resultInfo := rfl
@[simp] theorem State.publish_rdata : (s.publish).rdata = s.rdata := rfl
@[simp] theorem State.publish_cmdOp : (s.publish).cmdOp = s.cmdOp := rfl
@[simp] theorem State.publish_cmdPin : (s.publish).cmdPin = s.cmdPin := rfl
@[simp] theorem State.publish_arg0 : (s.publish).arg0 = s.arg0 := rfl
@[simp] theorem State.publish_arg1 : (s.publish).arg1 = s.arg1 := rfl
@[simp] theorem State.publish_pin : (s.publish).pin = s.pin := rfl
@[simp] theorem State.publish_idx : (s.publish).idx = s.idx := rfl
@[simp] theorem State.publish_polls : (s.publish).polls = s.polls := rfl
@[simp] theorem State.publish_auxSt : (s.publish).auxSt = s.auxSt := rfl
@[simp] theorem State.publish_auxOp : (s.publish).auxOp = s.auxOp := rfl
@[simp] theorem State.publish_twShort : (s.publish).twShort = s.twShort := rfl
@[simp] theorem State.publish_confTmp : (s.publish).confTmp = s.confTmp := rfl
@[simp] theorem State.publish_grown : (s.publish).grown = s.grown := rfl
@[simp] theorem State.publish_edidValid : (s.publish).edidValid = s.edidValid := rfl
@[simp] theorem State.publish_timingValid : (s.publish).timingValid = s.timingValid := rfl
@[simp] theorem State.publish_configured : (s.publish).configured = s.configured := rfl
@[simp] theorem State.publish_edid : (s.publish).edid = s.edid := rfl
@[simp] theorem State.publish_foundTransport : (s.publish).foundTransport = s.foundTransport := rfl
@[simp] theorem State.publish_foundPin : (s.publish).foundPin = s.foundPin := rfl
@[simp] theorem State.publish_timing : (s.publish).timing = s.timing := rfl
@[simp] theorem State.publish_tblHres : (s.publish).tblHres = s.tblHres := rfl
@[simp] theorem State.publish_tblVres : (s.publish).tblVres = s.tblVres := rfl
@[simp] theorem State.publish_mode : (s.publish).mode = s.mode := rfl
@[simp] theorem State.publish_hist : (s.publish).hist = s.hist ++ [.publish s.publishRecord s.publishAnswer] := rfl
@[simp] theorem State.publish_hostIn : (s.publish).hostIn = s.hostIn := rfl
@[simp] theorem State.publish_devIn : (s.publish).devIn = s.devIn := rfl
@[simp] theorem State.publish_publishIn : (s.publish).publishIn = s.publishIn.tail := rfl
@[simp] theorem State.publish_growIn : (s.publish).growIn = s.growIn := rfl
@[simp] theorem State.publish_freeCount : (s.publish).freeCount = s.freeCount + 1 := rfl

@[simp] theorem State.grow_cfg : (s.grow).cfg = s.cfg := rfl
@[simp] theorem State.grow_pc : (s.grow).pc = s.pc := rfl
@[simp] theorem State.grow_busy : (s.grow).busy = s.busy := rfl
@[simp] theorem State.grow_result : (s.grow).result = s.result := rfl
@[simp] theorem State.grow_resultInfo : (s.grow).resultInfo = s.resultInfo := rfl
@[simp] theorem State.grow_rdata : (s.grow).rdata = s.rdata := rfl
@[simp] theorem State.grow_cmdOp : (s.grow).cmdOp = s.cmdOp := rfl
@[simp] theorem State.grow_cmdPin : (s.grow).cmdPin = s.cmdPin := rfl
@[simp] theorem State.grow_arg0 : (s.grow).arg0 = s.arg0 := rfl
@[simp] theorem State.grow_arg1 : (s.grow).arg1 = s.arg1 := rfl
@[simp] theorem State.grow_pin : (s.grow).pin = s.pin := rfl
@[simp] theorem State.grow_idx : (s.grow).idx = s.idx := rfl
@[simp] theorem State.grow_polls : (s.grow).polls = s.polls := rfl
@[simp] theorem State.grow_auxSt : (s.grow).auxSt = s.auxSt := rfl
@[simp] theorem State.grow_auxOp : (s.grow).auxOp = s.auxOp := rfl
@[simp] theorem State.grow_twShort : (s.grow).twShort = s.twShort := rfl
@[simp] theorem State.grow_confTmp : (s.grow).confTmp = s.confTmp := rfl
@[simp] theorem State.grow_grown : (s.grow).grown = s.grown := rfl
@[simp] theorem State.grow_edidValid : (s.grow).edidValid = s.edidValid := rfl
@[simp] theorem State.grow_timingValid : (s.grow).timingValid = s.timingValid := rfl
@[simp] theorem State.grow_configured : (s.grow).configured = s.configured := rfl
@[simp] theorem State.grow_edid : (s.grow).edid = s.edid := rfl
@[simp] theorem State.grow_foundTransport : (s.grow).foundTransport = s.foundTransport := rfl
@[simp] theorem State.grow_foundPin : (s.grow).foundPin = s.foundPin := rfl
@[simp] theorem State.grow_timing : (s.grow).timing = s.timing := rfl
@[simp] theorem State.grow_tblHres : (s.grow).tblHres = s.tblHres := rfl
@[simp] theorem State.grow_tblVres : (s.grow).tblVres = s.tblVres := rfl
@[simp] theorem State.grow_mode : (s.grow).mode = s.mode := rfl
@[simp] theorem State.grow_hist : (s.grow).hist = s.hist ++ [.grow s.growAnswer] := rfl
@[simp] theorem State.grow_hostIn : (s.grow).hostIn = s.hostIn := rfl
@[simp] theorem State.grow_devIn : (s.grow).devIn = s.devIn := rfl
@[simp] theorem State.grow_publishIn : (s.grow).publishIn = s.publishIn := rfl
@[simp] theorem State.grow_growIn : (s.grow).growIn = s.growIn.tail := rfl
@[simp] theorem State.grow_freeCount : (s.grow).freeCount = s.freeCount + 1 := rfl

@[simp] theorem State.finish_cfg (c : ResultCode) (info : U32) : (s.finish c info).cfg = s.cfg := rfl
@[simp] theorem State.finish_pc (c : ResultCode) (info : U32) : (s.finish c info).pc = .idle := rfl
@[simp] theorem State.finish_busy (c : ResultCode) (info : U32) : (s.finish c info).busy = false := rfl
@[simp] theorem State.finish_result (c : ResultCode) (info : U32) : (s.finish c info).result = c := rfl
@[simp] theorem State.finish_resultInfo (c : ResultCode) (info : U32) : (s.finish c info).resultInfo = info := rfl
@[simp] theorem State.finish_rdata (c : ResultCode) (info : U32) : (s.finish c info).rdata = s.rdata := rfl
@[simp] theorem State.finish_cmdOp (c : ResultCode) (info : U32) : (s.finish c info).cmdOp = s.cmdOp := rfl
@[simp] theorem State.finish_cmdPin (c : ResultCode) (info : U32) : (s.finish c info).cmdPin = s.cmdPin := rfl
@[simp] theorem State.finish_arg0 (c : ResultCode) (info : U32) : (s.finish c info).arg0 = s.arg0 := rfl
@[simp] theorem State.finish_arg1 (c : ResultCode) (info : U32) : (s.finish c info).arg1 = s.arg1 := rfl
@[simp] theorem State.finish_pin (c : ResultCode) (info : U32) : (s.finish c info).pin = s.pin := rfl
@[simp] theorem State.finish_idx (c : ResultCode) (info : U32) : (s.finish c info).idx = s.idx := rfl
@[simp] theorem State.finish_polls (c : ResultCode) (info : U32) : (s.finish c info).polls = s.polls := rfl
@[simp] theorem State.finish_auxSt (c : ResultCode) (info : U32) : (s.finish c info).auxSt = s.auxSt := rfl
@[simp] theorem State.finish_auxOp (c : ResultCode) (info : U32) : (s.finish c info).auxOp = s.auxOp := rfl
@[simp] theorem State.finish_twShort (c : ResultCode) (info : U32) : (s.finish c info).twShort = s.twShort := rfl
@[simp] theorem State.finish_confTmp (c : ResultCode) (info : U32) : (s.finish c info).confTmp = s.confTmp := rfl
@[simp] theorem State.finish_grown (c : ResultCode) (info : U32) : (s.finish c info).grown = s.grown := rfl
@[simp] theorem State.finish_edidValid (c : ResultCode) (info : U32) : (s.finish c info).edidValid = s.edidValid := rfl
@[simp] theorem State.finish_timingValid (c : ResultCode) (info : U32) : (s.finish c info).timingValid = s.timingValid := rfl
@[simp] theorem State.finish_configured (c : ResultCode) (info : U32) : (s.finish c info).configured = s.configured := rfl
@[simp] theorem State.finish_edid (c : ResultCode) (info : U32) : (s.finish c info).edid = s.edid := rfl
@[simp] theorem State.finish_foundTransport (c : ResultCode) (info : U32) : (s.finish c info).foundTransport = s.foundTransport := rfl
@[simp] theorem State.finish_foundPin (c : ResultCode) (info : U32) : (s.finish c info).foundPin = s.foundPin := rfl
@[simp] theorem State.finish_timing (c : ResultCode) (info : U32) : (s.finish c info).timing = s.timing := rfl
@[simp] theorem State.finish_tblHres (c : ResultCode) (info : U32) : (s.finish c info).tblHres = s.tblHres := rfl
@[simp] theorem State.finish_tblVres (c : ResultCode) (info : U32) : (s.finish c info).tblVres = s.tblVres := rfl
@[simp] theorem State.finish_mode (c : ResultCode) (info : U32) : (s.finish c info).mode = s.mode := rfl
@[simp] theorem State.finish_hist (c : ResultCode) (info : U32) : (s.finish c info).hist = s.hist := rfl
@[simp] theorem State.finish_hostIn (c : ResultCode) (info : U32) : (s.finish c info).hostIn = s.hostIn := rfl
@[simp] theorem State.finish_devIn (c : ResultCode) (info : U32) : (s.finish c info).devIn = s.devIn := rfl
@[simp] theorem State.finish_publishIn (c : ResultCode) (info : U32) : (s.finish c info).publishIn = s.publishIn := rfl
@[simp] theorem State.finish_growIn (c : ResultCode) (info : U32) : (s.finish c info).growIn = s.growIn := rfl
@[simp] theorem State.finish_freeCount (c : ResultCode) (info : U32) : (s.finish c info).freeCount = s.freeCount := rfl

@[simp] theorem State.reject_cfg (c : ResultCode) (cw : U32) : (s.reject c cw).cfg = s.cfg := rfl
@[simp] theorem State.reject_pc (c : ResultCode) (cw : U32) : (s.reject c cw).pc = s.pc := rfl
@[simp] theorem State.reject_busy (c : ResultCode) (cw : U32) : (s.reject c cw).busy = s.busy := rfl
@[simp] theorem State.reject_result (c : ResultCode) (cw : U32) : (s.reject c cw).result = c := rfl
@[simp] theorem State.reject_resultInfo (c : ResultCode) (cw : U32) : (s.reject c cw).resultInfo = cw := rfl
@[simp] theorem State.reject_rdata (c : ResultCode) (cw : U32) : (s.reject c cw).rdata = s.rdata := rfl
@[simp] theorem State.reject_cmdOp (c : ResultCode) (cw : U32) : (s.reject c cw).cmdOp = s.cmdOp := rfl
@[simp] theorem State.reject_cmdPin (c : ResultCode) (cw : U32) : (s.reject c cw).cmdPin = s.cmdPin := rfl
@[simp] theorem State.reject_arg0 (c : ResultCode) (cw : U32) : (s.reject c cw).arg0 = s.arg0 := rfl
@[simp] theorem State.reject_arg1 (c : ResultCode) (cw : U32) : (s.reject c cw).arg1 = s.arg1 := rfl
@[simp] theorem State.reject_pin (c : ResultCode) (cw : U32) : (s.reject c cw).pin = s.pin := rfl
@[simp] theorem State.reject_idx (c : ResultCode) (cw : U32) : (s.reject c cw).idx = s.idx := rfl
@[simp] theorem State.reject_polls (c : ResultCode) (cw : U32) : (s.reject c cw).polls = s.polls := rfl
@[simp] theorem State.reject_auxSt (c : ResultCode) (cw : U32) : (s.reject c cw).auxSt = s.auxSt := rfl
@[simp] theorem State.reject_auxOp (c : ResultCode) (cw : U32) : (s.reject c cw).auxOp = s.auxOp := rfl
@[simp] theorem State.reject_twShort (c : ResultCode) (cw : U32) : (s.reject c cw).twShort = s.twShort := rfl
@[simp] theorem State.reject_confTmp (c : ResultCode) (cw : U32) : (s.reject c cw).confTmp = s.confTmp := rfl
@[simp] theorem State.reject_grown (c : ResultCode) (cw : U32) : (s.reject c cw).grown = s.grown := rfl
@[simp] theorem State.reject_edidValid (c : ResultCode) (cw : U32) : (s.reject c cw).edidValid = s.edidValid := rfl
@[simp] theorem State.reject_timingValid (c : ResultCode) (cw : U32) : (s.reject c cw).timingValid = s.timingValid := rfl
@[simp] theorem State.reject_configured (c : ResultCode) (cw : U32) : (s.reject c cw).configured = s.configured := rfl
@[simp] theorem State.reject_edid (c : ResultCode) (cw : U32) : (s.reject c cw).edid = s.edid := rfl
@[simp] theorem State.reject_foundTransport (c : ResultCode) (cw : U32) : (s.reject c cw).foundTransport = s.foundTransport := rfl
@[simp] theorem State.reject_foundPin (c : ResultCode) (cw : U32) : (s.reject c cw).foundPin = s.foundPin := rfl
@[simp] theorem State.reject_timing (c : ResultCode) (cw : U32) : (s.reject c cw).timing = s.timing := rfl
@[simp] theorem State.reject_tblHres (c : ResultCode) (cw : U32) : (s.reject c cw).tblHres = s.tblHres := rfl
@[simp] theorem State.reject_tblVres (c : ResultCode) (cw : U32) : (s.reject c cw).tblVres = s.tblVres := rfl
@[simp] theorem State.reject_mode (c : ResultCode) (cw : U32) : (s.reject c cw).mode = s.mode := rfl
@[simp] theorem State.reject_hist (c : ResultCode) (cw : U32) : (s.reject c cw).hist = s.hist := rfl
@[simp] theorem State.reject_hostIn (c : ResultCode) (cw : U32) : (s.reject c cw).hostIn = s.hostIn := rfl
@[simp] theorem State.reject_devIn (c : ResultCode) (cw : U32) : (s.reject c cw).devIn = s.devIn := rfl
@[simp] theorem State.reject_publishIn (c : ResultCode) (cw : U32) : (s.reject c cw).publishIn = s.publishIn := rfl
@[simp] theorem State.reject_growIn (c : ResultCode) (cw : U32) : (s.reject c cw).growIn = s.growIn := rfl
@[simp] theorem State.reject_freeCount (c : ResultCode) (cw : U32) : (s.reject c cw).freeCount = s.freeCount := rfl

@[simp] theorem State.accept_cfg (op pin : U8) (a0 a1 : U64) (p : Phase) : (s.accept op pin a0 a1 p).cfg = s.cfg := rfl
@[simp] theorem State.accept_pc (op pin : U8) (a0 a1 : U64) (p : Phase) : (s.accept op pin a0 a1 p).pc = p := rfl
@[simp] theorem State.accept_busy (op pin : U8) (a0 a1 : U64) (p : Phase) : (s.accept op pin a0 a1 p).busy = true := rfl
@[simp] theorem State.accept_result (op pin : U8) (a0 a1 : U64) (p : Phase) : (s.accept op pin a0 a1 p).result = s.result := rfl
@[simp] theorem State.accept_resultInfo (op pin : U8) (a0 a1 : U64) (p : Phase) : (s.accept op pin a0 a1 p).resultInfo = s.resultInfo := rfl
@[simp] theorem State.accept_rdata (op pin : U8) (a0 a1 : U64) (p : Phase) : (s.accept op pin a0 a1 p).rdata = s.rdata := rfl
@[simp] theorem State.accept_cmdOp (op pin : U8) (a0 a1 : U64) (p : Phase) : (s.accept op pin a0 a1 p).cmdOp = op := rfl
@[simp] theorem State.accept_cmdPin (op pin : U8) (a0 a1 : U64) (p : Phase) : (s.accept op pin a0 a1 p).cmdPin = pin := rfl
@[simp] theorem State.accept_arg0 (op pin : U8) (a0 a1 : U64) (p : Phase) : (s.accept op pin a0 a1 p).arg0 = a0 := rfl
@[simp] theorem State.accept_arg1 (op pin : U8) (a0 a1 : U64) (p : Phase) : (s.accept op pin a0 a1 p).arg1 = a1 := rfl
@[simp] theorem State.accept_pin (op pin : U8) (a0 a1 : U64) (p : Phase) : (s.accept op pin a0 a1 p).pin = s.pin := rfl
@[simp] theorem State.accept_idx (op pin : U8) (a0 a1 : U64) (p : Phase) : (s.accept op pin a0 a1 p).idx = s.idx := rfl
@[simp] theorem State.accept_polls (op pin : U8) (a0 a1 : U64) (p : Phase) : (s.accept op pin a0 a1 p).polls = s.polls := rfl
@[simp] theorem State.accept_auxSt (op pin : U8) (a0 a1 : U64) (p : Phase) : (s.accept op pin a0 a1 p).auxSt = s.auxSt := rfl
@[simp] theorem State.accept_auxOp (op pin : U8) (a0 a1 : U64) (p : Phase) : (s.accept op pin a0 a1 p).auxOp = s.auxOp := rfl
@[simp] theorem State.accept_twShort (op pin : U8) (a0 a1 : U64) (p : Phase) : (s.accept op pin a0 a1 p).twShort = s.twShort := rfl
@[simp] theorem State.accept_confTmp (op pin : U8) (a0 a1 : U64) (p : Phase) : (s.accept op pin a0 a1 p).confTmp = s.confTmp := rfl
@[simp] theorem State.accept_grown (op pin : U8) (a0 a1 : U64) (p : Phase) : (s.accept op pin a0 a1 p).grown = s.grown := rfl
@[simp] theorem State.accept_edidValid (op pin : U8) (a0 a1 : U64) (p : Phase) : (s.accept op pin a0 a1 p).edidValid = s.edidValid := rfl
@[simp] theorem State.accept_timingValid (op pin : U8) (a0 a1 : U64) (p : Phase) : (s.accept op pin a0 a1 p).timingValid = s.timingValid := rfl
@[simp] theorem State.accept_configured (op pin : U8) (a0 a1 : U64) (p : Phase) : (s.accept op pin a0 a1 p).configured = s.configured := rfl
@[simp] theorem State.accept_edid (op pin : U8) (a0 a1 : U64) (p : Phase) : (s.accept op pin a0 a1 p).edid = s.edid := rfl
@[simp] theorem State.accept_foundTransport (op pin : U8) (a0 a1 : U64) (p : Phase) : (s.accept op pin a0 a1 p).foundTransport = s.foundTransport := rfl
@[simp] theorem State.accept_foundPin (op pin : U8) (a0 a1 : U64) (p : Phase) : (s.accept op pin a0 a1 p).foundPin = s.foundPin := rfl
@[simp] theorem State.accept_timing (op pin : U8) (a0 a1 : U64) (p : Phase) : (s.accept op pin a0 a1 p).timing = s.timing := rfl
@[simp] theorem State.accept_tblHres (op pin : U8) (a0 a1 : U64) (p : Phase) : (s.accept op pin a0 a1 p).tblHres = s.tblHres := rfl
@[simp] theorem State.accept_tblVres (op pin : U8) (a0 a1 : U64) (p : Phase) : (s.accept op pin a0 a1 p).tblVres = s.tblVres := rfl
@[simp] theorem State.accept_mode (op pin : U8) (a0 a1 : U64) (p : Phase) : (s.accept op pin a0 a1 p).mode = s.mode := rfl
@[simp] theorem State.accept_hist (op pin : U8) (a0 a1 : U64) (p : Phase) : (s.accept op pin a0 a1 p).hist = s.hist := rfl
@[simp] theorem State.accept_hostIn (op pin : U8) (a0 a1 : U64) (p : Phase) : (s.accept op pin a0 a1 p).hostIn = s.hostIn := rfl
@[simp] theorem State.accept_devIn (op pin : U8) (a0 a1 : U64) (p : Phase) : (s.accept op pin a0 a1 p).devIn = s.devIn := rfl
@[simp] theorem State.accept_publishIn (op pin : U8) (a0 a1 : U64) (p : Phase) : (s.accept op pin a0 a1 p).publishIn = s.publishIn := rfl
@[simp] theorem State.accept_growIn (op pin : U8) (a0 a1 : U64) (p : Phase) : (s.accept op pin a0 a1 p).growIn = s.growIn := rfl
@[simp] theorem State.accept_freeCount (op pin : U8) (a0 a1 : U64) (p : Phase) : (s.accept op pin a0 a1 p).freeCount = s.freeCount := rfl

@[simp] theorem State.clearValidity_cfg : (s.clearValidity).cfg = s.cfg := rfl
@[simp] theorem State.clearValidity_pc : (s.clearValidity).pc = s.pc := rfl
@[simp] theorem State.clearValidity_busy : (s.clearValidity).busy = s.busy := rfl
@[simp] theorem State.clearValidity_result : (s.clearValidity).result = s.result := rfl
@[simp] theorem State.clearValidity_resultInfo : (s.clearValidity).resultInfo = s.resultInfo := rfl
@[simp] theorem State.clearValidity_rdata : (s.clearValidity).rdata = s.rdata := rfl
@[simp] theorem State.clearValidity_cmdOp : (s.clearValidity).cmdOp = s.cmdOp := rfl
@[simp] theorem State.clearValidity_cmdPin : (s.clearValidity).cmdPin = s.cmdPin := rfl
@[simp] theorem State.clearValidity_arg0 : (s.clearValidity).arg0 = s.arg0 := rfl
@[simp] theorem State.clearValidity_arg1 : (s.clearValidity).arg1 = s.arg1 := rfl
@[simp] theorem State.clearValidity_pin : (s.clearValidity).pin = s.pin := rfl
@[simp] theorem State.clearValidity_idx : (s.clearValidity).idx = s.idx := rfl
@[simp] theorem State.clearValidity_polls : (s.clearValidity).polls = s.polls := rfl
@[simp] theorem State.clearValidity_auxSt : (s.clearValidity).auxSt = s.auxSt := rfl
@[simp] theorem State.clearValidity_auxOp : (s.clearValidity).auxOp = s.auxOp := rfl
@[simp] theorem State.clearValidity_twShort : (s.clearValidity).twShort = s.twShort := rfl
@[simp] theorem State.clearValidity_confTmp : (s.clearValidity).confTmp = s.confTmp := rfl
@[simp] theorem State.clearValidity_grown : (s.clearValidity).grown = s.grown := rfl
@[simp] theorem State.clearValidity_edidValid : (s.clearValidity).edidValid = false := rfl
@[simp] theorem State.clearValidity_timingValid : (s.clearValidity).timingValid = false := rfl
@[simp] theorem State.clearValidity_configured : (s.clearValidity).configured = s.configured := rfl
@[simp] theorem State.clearValidity_edid : (s.clearValidity).edid = s.edid := rfl
@[simp] theorem State.clearValidity_foundTransport : (s.clearValidity).foundTransport = s.foundTransport := rfl
@[simp] theorem State.clearValidity_foundPin : (s.clearValidity).foundPin = s.foundPin := rfl
@[simp] theorem State.clearValidity_timing : (s.clearValidity).timing = s.timing := rfl
@[simp] theorem State.clearValidity_tblHres : (s.clearValidity).tblHres = s.tblHres := rfl
@[simp] theorem State.clearValidity_tblVres : (s.clearValidity).tblVres = s.tblVres := rfl
@[simp] theorem State.clearValidity_mode : (s.clearValidity).mode = s.mode := rfl
@[simp] theorem State.clearValidity_hist : (s.clearValidity).hist = s.hist := rfl
@[simp] theorem State.clearValidity_hostIn : (s.clearValidity).hostIn = s.hostIn := rfl
@[simp] theorem State.clearValidity_devIn : (s.clearValidity).devIn = s.devIn := rfl
@[simp] theorem State.clearValidity_publishIn : (s.clearValidity).publishIn = s.publishIn := rfl
@[simp] theorem State.clearValidity_growIn : (s.clearValidity).growIn = s.growIn := rfl
@[simp] theorem State.clearValidity_freeCount : (s.clearValidity).freeCount = s.freeCount := rfl

@[simp] theorem State.clearTimingValid_cfg : (s.clearTimingValid).cfg = s.cfg := rfl
@[simp] theorem State.clearTimingValid_pc : (s.clearTimingValid).pc = s.pc := rfl
@[simp] theorem State.clearTimingValid_busy : (s.clearTimingValid).busy = s.busy := rfl
@[simp] theorem State.clearTimingValid_result : (s.clearTimingValid).result = s.result := rfl
@[simp] theorem State.clearTimingValid_resultInfo : (s.clearTimingValid).resultInfo = s.resultInfo := rfl
@[simp] theorem State.clearTimingValid_rdata : (s.clearTimingValid).rdata = s.rdata := rfl
@[simp] theorem State.clearTimingValid_cmdOp : (s.clearTimingValid).cmdOp = s.cmdOp := rfl
@[simp] theorem State.clearTimingValid_cmdPin : (s.clearTimingValid).cmdPin = s.cmdPin := rfl
@[simp] theorem State.clearTimingValid_arg0 : (s.clearTimingValid).arg0 = s.arg0 := rfl
@[simp] theorem State.clearTimingValid_arg1 : (s.clearTimingValid).arg1 = s.arg1 := rfl
@[simp] theorem State.clearTimingValid_pin : (s.clearTimingValid).pin = s.pin := rfl
@[simp] theorem State.clearTimingValid_idx : (s.clearTimingValid).idx = s.idx := rfl
@[simp] theorem State.clearTimingValid_polls : (s.clearTimingValid).polls = s.polls := rfl
@[simp] theorem State.clearTimingValid_auxSt : (s.clearTimingValid).auxSt = s.auxSt := rfl
@[simp] theorem State.clearTimingValid_auxOp : (s.clearTimingValid).auxOp = s.auxOp := rfl
@[simp] theorem State.clearTimingValid_twShort : (s.clearTimingValid).twShort = s.twShort := rfl
@[simp] theorem State.clearTimingValid_confTmp : (s.clearTimingValid).confTmp = s.confTmp := rfl
@[simp] theorem State.clearTimingValid_grown : (s.clearTimingValid).grown = s.grown := rfl
@[simp] theorem State.clearTimingValid_edidValid : (s.clearTimingValid).edidValid = s.edidValid := rfl
@[simp] theorem State.clearTimingValid_timingValid : (s.clearTimingValid).timingValid = false := rfl
@[simp] theorem State.clearTimingValid_configured : (s.clearTimingValid).configured = s.configured := rfl
@[simp] theorem State.clearTimingValid_edid : (s.clearTimingValid).edid = s.edid := rfl
@[simp] theorem State.clearTimingValid_foundTransport : (s.clearTimingValid).foundTransport = s.foundTransport := rfl
@[simp] theorem State.clearTimingValid_foundPin : (s.clearTimingValid).foundPin = s.foundPin := rfl
@[simp] theorem State.clearTimingValid_timing : (s.clearTimingValid).timing = s.timing := rfl
@[simp] theorem State.clearTimingValid_tblHres : (s.clearTimingValid).tblHres = s.tblHres := rfl
@[simp] theorem State.clearTimingValid_tblVres : (s.clearTimingValid).tblVres = s.tblVres := rfl
@[simp] theorem State.clearTimingValid_mode : (s.clearTimingValid).mode = s.mode := rfl
@[simp] theorem State.clearTimingValid_hist : (s.clearTimingValid).hist = s.hist := rfl
@[simp] theorem State.clearTimingValid_hostIn : (s.clearTimingValid).hostIn = s.hostIn := rfl
@[simp] theorem State.clearTimingValid_devIn : (s.clearTimingValid).devIn = s.devIn := rfl
@[simp] theorem State.clearTimingValid_publishIn : (s.clearTimingValid).publishIn = s.publishIn := rfl
@[simp] theorem State.clearTimingValid_growIn : (s.clearTimingValid).growIn = s.growIn := rfl
@[simp] theorem State.clearTimingValid_freeCount : (s.clearTimingValid).freeCount = s.freeCount := rfl

@[simp] theorem State.markFound_cfg (t : Transport) : (s.markFound t).cfg = s.cfg := rfl
@[simp] theorem State.markFound_pc (t : Transport) : (s.markFound t).pc = s.pc := rfl
@[simp] theorem State.markFound_busy (t : Transport) : (s.markFound t).busy = s.busy := rfl
@[simp] theorem State.markFound_result (t : Transport) : (s.markFound t).result = s.result := rfl
@[simp] theorem State.markFound_resultInfo (t : Transport) : (s.markFound t).resultInfo = s.resultInfo := rfl
@[simp] theorem State.markFound_rdata (t : Transport) : (s.markFound t).rdata = s.rdata := rfl
@[simp] theorem State.markFound_cmdOp (t : Transport) : (s.markFound t).cmdOp = s.cmdOp := rfl
@[simp] theorem State.markFound_cmdPin (t : Transport) : (s.markFound t).cmdPin = s.cmdPin := rfl
@[simp] theorem State.markFound_arg0 (t : Transport) : (s.markFound t).arg0 = s.arg0 := rfl
@[simp] theorem State.markFound_arg1 (t : Transport) : (s.markFound t).arg1 = s.arg1 := rfl
@[simp] theorem State.markFound_pin (t : Transport) : (s.markFound t).pin = s.pin := rfl
@[simp] theorem State.markFound_idx (t : Transport) : (s.markFound t).idx = s.idx := rfl
@[simp] theorem State.markFound_polls (t : Transport) : (s.markFound t).polls = s.polls := rfl
@[simp] theorem State.markFound_auxSt (t : Transport) : (s.markFound t).auxSt = s.auxSt := rfl
@[simp] theorem State.markFound_auxOp (t : Transport) : (s.markFound t).auxOp = s.auxOp := rfl
@[simp] theorem State.markFound_twShort (t : Transport) : (s.markFound t).twShort = s.twShort := rfl
@[simp] theorem State.markFound_confTmp (t : Transport) : (s.markFound t).confTmp = s.confTmp := rfl
@[simp] theorem State.markFound_grown (t : Transport) : (s.markFound t).grown = s.grown := rfl
@[simp] theorem State.markFound_edidValid (t : Transport) : (s.markFound t).edidValid = true := rfl
@[simp] theorem State.markFound_timingValid (t : Transport) : (s.markFound t).timingValid = s.timingValid := rfl
@[simp] theorem State.markFound_configured (t : Transport) : (s.markFound t).configured = s.configured := rfl
@[simp] theorem State.markFound_edid (t : Transport) : (s.markFound t).edid = s.edid := rfl
@[simp] theorem State.markFound_foundTransport (t : Transport) : (s.markFound t).foundTransport = t := rfl
@[simp] theorem State.markFound_foundPin (t : Transport) : (s.markFound t).foundPin = s.pin := rfl
@[simp] theorem State.markFound_timing (t : Transport) : (s.markFound t).timing = s.timing := rfl
@[simp] theorem State.markFound_tblHres (t : Transport) : (s.markFound t).tblHres = s.tblHres := rfl
@[simp] theorem State.markFound_tblVres (t : Transport) : (s.markFound t).tblVres = s.tblVres := rfl
@[simp] theorem State.markFound_mode (t : Transport) : (s.markFound t).mode = s.mode := rfl
@[simp] theorem State.markFound_hist (t : Transport) : (s.markFound t).hist = s.hist := rfl
@[simp] theorem State.markFound_hostIn (t : Transport) : (s.markFound t).hostIn = s.hostIn := rfl
@[simp] theorem State.markFound_devIn (t : Transport) : (s.markFound t).devIn = s.devIn := rfl
@[simp] theorem State.markFound_publishIn (t : Transport) : (s.markFound t).publishIn = s.publishIn := rfl
@[simp] theorem State.markFound_growIn (t : Transport) : (s.markFound t).growIn = s.growIn := rfl
@[simp] theorem State.markFound_freeCount (t : Transport) : (s.markFound t).freeCount = s.freeCount := rfl

@[simp] theorem State.hostReset_cfg : s.hostReset.cfg = s.cfg := rfl
@[simp] theorem State.hostReset_pc : s.hostReset.pc = State.reset.pc := rfl
@[simp] theorem State.hostReset_busy : s.hostReset.busy = State.reset.busy := rfl
@[simp] theorem State.hostReset_result : s.hostReset.result = State.reset.result := rfl
@[simp] theorem State.hostReset_resultInfo : s.hostReset.resultInfo = State.reset.resultInfo := rfl
@[simp] theorem State.hostReset_rdata : s.hostReset.rdata = State.reset.rdata := rfl
@[simp] theorem State.hostReset_cmdOp : s.hostReset.cmdOp = State.reset.cmdOp := rfl
@[simp] theorem State.hostReset_cmdPin : s.hostReset.cmdPin = State.reset.cmdPin := rfl
@[simp] theorem State.hostReset_arg0 : s.hostReset.arg0 = State.reset.arg0 := rfl
@[simp] theorem State.hostReset_arg1 : s.hostReset.arg1 = State.reset.arg1 := rfl
@[simp] theorem State.hostReset_pin : s.hostReset.pin = State.reset.pin := rfl
@[simp] theorem State.hostReset_idx : s.hostReset.idx = State.reset.idx := rfl
@[simp] theorem State.hostReset_polls : s.hostReset.polls = State.reset.polls := rfl
@[simp] theorem State.hostReset_auxSt : s.hostReset.auxSt = State.reset.auxSt := rfl
@[simp] theorem State.hostReset_auxOp : s.hostReset.auxOp = State.reset.auxOp := rfl
@[simp] theorem State.hostReset_twShort : s.hostReset.twShort = State.reset.twShort := rfl
@[simp] theorem State.hostReset_confTmp : s.hostReset.confTmp = State.reset.confTmp := rfl
@[simp] theorem State.hostReset_grown : s.hostReset.grown = State.reset.grown := rfl
@[simp] theorem State.hostReset_edidValid : s.hostReset.edidValid = State.reset.edidValid := rfl
@[simp] theorem State.hostReset_timingValid : s.hostReset.timingValid = State.reset.timingValid := rfl
@[simp] theorem State.hostReset_configured : s.hostReset.configured = State.reset.configured := rfl
@[simp] theorem State.hostReset_edid : s.hostReset.edid = State.reset.edid := rfl
@[simp] theorem State.hostReset_foundTransport : s.hostReset.foundTransport = State.reset.foundTransport := rfl
@[simp] theorem State.hostReset_foundPin : s.hostReset.foundPin = State.reset.foundPin := rfl
@[simp] theorem State.hostReset_timing : s.hostReset.timing = State.reset.timing := rfl
@[simp] theorem State.hostReset_tblHres : s.hostReset.tblHres = State.reset.tblHres := rfl
@[simp] theorem State.hostReset_tblVres : s.hostReset.tblVres = State.reset.tblVres := rfl
@[simp] theorem State.hostReset_mode : s.hostReset.mode = State.reset.mode := rfl
@[simp] theorem State.hostReset_hist : s.hostReset.hist = (if s.cfg.histKept then s.hist else []) := rfl
@[simp] theorem State.hostReset_hostIn : s.hostReset.hostIn = s.hostIn := rfl
@[simp] theorem State.hostReset_devIn : s.hostReset.devIn = s.devIn := rfl
@[simp] theorem State.hostReset_publishIn : s.hostReset.publishIn = s.publishIn := rfl
@[simp] theorem State.hostReset_growIn : s.hostReset.growIn = s.growIn := rfl
@[simp] theorem State.hostReset_freeCount : s.hostReset.freeCount = s.freeCount := rfl

@[simp] theorem State.writeTiming_cfg : s.writeTiming.cfg = s.cfg := rfl
@[simp] theorem State.writeTiming_pc : s.writeTiming.pc = s.pc := rfl
@[simp] theorem State.writeTiming_busy : s.writeTiming.busy = s.busy := rfl
@[simp] theorem State.writeTiming_result : s.writeTiming.result = s.result := rfl
@[simp] theorem State.writeTiming_resultInfo : s.writeTiming.resultInfo = s.resultInfo := rfl
@[simp] theorem State.writeTiming_rdata : s.writeTiming.rdata = s.rdata := rfl
@[simp] theorem State.writeTiming_cmdOp : s.writeTiming.cmdOp = s.cmdOp := rfl
@[simp] theorem State.writeTiming_cmdPin : s.writeTiming.cmdPin = s.cmdPin := rfl
@[simp] theorem State.writeTiming_arg0 : s.writeTiming.arg0 = s.arg0 := rfl
@[simp] theorem State.writeTiming_arg1 : s.writeTiming.arg1 = s.arg1 := rfl
@[simp] theorem State.writeTiming_pin : s.writeTiming.pin = s.pin := rfl
@[simp] theorem State.writeTiming_idx : s.writeTiming.idx = s.idx := rfl
@[simp] theorem State.writeTiming_polls : s.writeTiming.polls = s.polls := rfl
@[simp] theorem State.writeTiming_auxSt : s.writeTiming.auxSt = s.auxSt := rfl
@[simp] theorem State.writeTiming_auxOp : s.writeTiming.auxOp = s.auxOp := rfl
@[simp] theorem State.writeTiming_twShort : s.writeTiming.twShort = s.twShort := rfl
@[simp] theorem State.writeTiming_confTmp : s.writeTiming.confTmp = s.confTmp := rfl
@[simp] theorem State.writeTiming_grown : s.writeTiming.grown = s.grown := rfl
@[simp] theorem State.writeTiming_edidValid : s.writeTiming.edidValid = s.edidValid := rfl
@[simp] theorem State.writeTiming_timingValid : s.writeTiming.timingValid = true := rfl
@[simp] theorem State.writeTiming_configured : s.writeTiming.configured = s.configured := rfl
@[simp] theorem State.writeTiming_edid : s.writeTiming.edid = s.edid := rfl
@[simp] theorem State.writeTiming_foundTransport : s.writeTiming.foundTransport = s.foundTransport := rfl
@[simp] theorem State.writeTiming_foundPin : s.writeTiming.foundPin = s.foundPin := rfl
@[simp] theorem State.writeTiming_timing : s.writeTiming.timing = decodeTiming s.cfg s.edid := rfl
@[simp] theorem State.writeTiming_tblHres : s.writeTiming.tblHres = (decodeTiming s.cfg s.edid).hActive := rfl
@[simp] theorem State.writeTiming_tblVres : s.writeTiming.tblVres = (decodeTiming s.cfg s.edid).vActive := rfl
@[simp] theorem State.writeTiming_mode : s.writeTiming.mode = s.mode := rfl
@[simp] theorem State.writeTiming_hist : s.writeTiming.hist = s.hist := rfl
@[simp] theorem State.writeTiming_hostIn : s.writeTiming.hostIn = s.hostIn := rfl
@[simp] theorem State.writeTiming_devIn : s.writeTiming.devIn = s.devIn := rfl
@[simp] theorem State.writeTiming_publishIn : s.writeTiming.publishIn = s.publishIn := rfl
@[simp] theorem State.writeTiming_growIn : s.writeTiming.growIn = s.growIn := rfl
@[simp] theorem State.writeTiming_freeCount : s.writeTiming.freeCount = s.freeCount := rfl

@[simp] theorem State.reset_pc : State.reset.pc = .idle := rfl
@[simp] theorem State.reset_busy : State.reset.busy = false := rfl
@[simp] theorem State.reset_result : State.reset.result = .ok := rfl
@[simp] theorem State.reset_resultInfo : State.reset.resultInfo = 0 := rfl
@[simp] theorem State.reset_rdata : State.reset.rdata = 0 := rfl
@[simp] theorem State.reset_cmdOp : State.reset.cmdOp = 0 := rfl
@[simp] theorem State.reset_cmdPin : State.reset.cmdPin = 0 := rfl
@[simp] theorem State.reset_arg0 : State.reset.arg0 = 0 := rfl
@[simp] theorem State.reset_arg1 : State.reset.arg1 = 0 := rfl
@[simp] theorem State.reset_edidValid : State.reset.edidValid = false := rfl
@[simp] theorem State.reset_timingValid : State.reset.timingValid = false := rfl
@[simp] theorem State.reset_configured : State.reset.configured = false := rfl
@[simp] theorem State.reset_tblHres : State.reset.tblHres = 1024 := rfl
@[simp] theorem State.reset_tblVres : State.reset.tblVres = 768 := rfl
@[simp] theorem State.reset_hist : State.reset.hist = [] := rfl
@[simp] theorem State.reset_hostIn : State.reset.hostIn = [] := rfl
@[simp] theorem State.reset_devIn : State.reset.devIn = [] := rfl
@[simp] theorem State.reset_cfg : State.reset.cfg = Cfg.default := rfl
@[simp] theorem State.reset_pin : State.reset.pin = 0 := rfl
@[simp] theorem State.reset_idx : State.reset.idx = 0 := rfl
@[simp] theorem State.reset_polls : State.reset.polls = 0 := rfl

end Sys2Proof.Machine
end

