-- ==== Sys2Proof/Laws/Ops.lean ====
section
/-! SUPPORT. One lemma per shared operation: everything it can do. Later proofs cite these instead of unfolding the operations. -/

namespace Sys2Proof.Machine

variable {s t : State}

@[simp] theorem State.unlessBusy_of_busy (h : s.busy = true) (k : Outcome) : s.unlessBusy k = .next s := by
  simp [State.unlessBusy, h]

@[simp] theorem State.unlessBusy_of_free (h : s.busy = false) (k : Outcome) : s.unlessBusy k = k := by
  simp [State.unlessBusy, h]

/-- Issue of a `PORT_` command answers a next state in one of three ways: dropped, turned away, accepted. -/
theorem issuePort_next {op : U8} {ok al : Bool} {a0 a1 : U64} {p : Phase} (h : issuePort op ok al a0 a1 p s = .next t) :
    (s.busy = true ∧ t = s) ∨
    (s.busy = false ∧ ok = false ∧ t = s.reject .badOperand (commandWord op 0)) ∨
    (s.busy = false ∧ ok = true ∧ al = true ∧ t = s.accept op 0 a0 a1 p) := by
  unfold issuePort State.unlessBusy at h
  cases hb : s.busy <;> cases ok <;> cases al <;> simp_all

/-- A `PIN` in the auxiliary range names a pin. -/
theorem auxPin?_of_ok {c : Cfg} {p : U8} (h : auxPinOk p = true) : ∃ a, auxPin? c p = some a := by
  have h' : p.toNat ≤ 5 := by
    simpa [auxPinOk, BitVec.le_def] using h
  exact ⟨c.auxPins[p.toNat], by simp [auxPin?]⟩

/-- A step that needs the registers of an auxiliary pin answers a next state exactly when `PIN` names a pin. -/
theorem State.withAuxPin_next {k : AuxOffsets → State} :
    s.withAuxPin k = .next t ↔ ∃ a, auxPin? s.cfg s.pin = some a ∧ t = k a := by
  unfold State.withAuxPin
  cases auxPin? s.cfg s.pin <;> simp [eq_comm]

/-- A single-attempt command surfaces the outcome. -/
theorem attemptEnd_single {tr : Transport} {o : AttemptOutcome} (h : s.cmdOp = Op.twRead ∨ s.cmdOp = Op.auxRead) :
    attemptEnd tr o s = (s.recordOutcome tr o).finish (outcomeCode o) (zext 32 s.idx) := by
  simp only [attemptEnd, if_pos h]

/-- A search goes on. -/
theorem attemptEnd_search {tr : Transport} {o : AttemptOutcome} (h1 : s.cmdOp ≠ Op.twRead) (h2 : s.cmdOp ≠ Op.auxRead) :
    attemptEnd tr o s = (s.recordOutcome tr o).goto (afterAttempt tr o) := by
  exact if_neg fun h => h.elim h1 h2

/-- What a *status* value says, by its two flags. -/
theorem twClassify_eq (c : Cfg) (st : U32) :
    (st &&& c.twStBusErr ≠ 0 ∧ twClassify c st = .busErr) ∨
    (st &&& c.twStBusErr = 0 ∧ st &&& c.twStHwRdy ≠ 0 ∧ twClassify c st = .ready) ∨
    (st &&& c.twStBusErr = 0 ∧ st &&& c.twStHwRdy = 0 ∧ twClassify c st = .wait) := by
  unfold twClassify
  split_ifs with h1 h2
  · exact .inl ⟨h1, rfl⟩
  · exact .inr (.inl ⟨not_not.mp h1, h2, rfl⟩)
  · exact .inr (.inr ⟨not_not.mp h1, not_not.mp h2, rfl⟩)

/-- The default configuration is well-formed. -/
@[simp] theorem Cfg.default_wf : Cfg.default.wf = true := by decide

/-- The step of a machine whose configuration is well-formed. -/
theorem step_of_wf (h : s.cfg.wf = true) : step s = hostOrBlockStep s := by
  simp [step, machineStep, h]

/-- Under an ill-formed configuration there is no step. -/
theorem step_of_not_wf (h : s.cfg.wf = false) : step s = .refused .illFormedCfg := by
  simp [step, machineStep, h]

/-- Where the host makes no move the block takes its step. -/
theorem step_block (h : s.cfg.wf = true) (hh : s.hostIn = []) : step s = blockStep s := by
  simp [step_of_wf h, hostOrBlockStep, hh]

/-- Everything a step can do when it answers a next state. -/
theorem step_next (h : step s = .next t) :
    s.cfg.wf = true ∧
    ((s.hostIn = [] ∧ blockStep s = .next t) ∨
     (∃ r, s.hostIn = .pass :: r ∧ blockStep { s with hostIn := r } = .next t) ∨
     (∃ r, s.hostIn = .wait :: r ∧ s.busy = true ∧ blockStep s = .next t) ∨
     (∃ r, s.hostIn = .wait :: r ∧ s.busy = false ∧ t = { s with hostIn := r }) ∨
     (∃ cw a0 a1 r, s.hostIn = .issue cw a0 a1 :: r ∧ commandIssue ⟨cw, a0, a1⟩ { s with hostIn := r } = .next t) ∨
     (∃ r, s.hostIn = .reset :: r ∧ t = { s with hostIn := r }.hostReset) ∨
     (∃ reg r, s.hostIn = .read reg :: r ∧ hostRead s reg ≠ none ∧ t = { s with hostIn := r })) := by
  cases hw : s.cfg.wf
  · simp [step_of_not_wf hw] at h
  refine ⟨rfl, ?_⟩
  rw [step_of_wf hw] at h
  unfold hostOrBlockStep at h
  split at h <;> rename_i hh
  · exact .inl ⟨hh, h⟩
  · exact .inr (.inl ⟨_, hh, h⟩)
  · split at h <;> rename_i hb
    · exact .inr (.inr (.inl ⟨_, hh, hb, h⟩))
    · exact .inr (.inr (.inr (.inl ⟨_, hh, by simpa using hb, by simpa using h.symm⟩)))
  · exact .inr (.inr (.inr (.inr (.inl ⟨_, _, _, _, hh, h⟩))))
  · exact .inr (.inr (.inr (.inr (.inr (.inl ⟨_, hh, by simpa using h.symm⟩)))))
  · refine .inr (.inr (.inr (.inr (.inr (.inr ⟨_, _, hh, ?_⟩)))))
    unfold readStep at h
    rename_i reg rest
    have e : hostRead { s with hostIn := rest } reg = hostRead s reg := by
      cases reg <;> rfl
    rw [e] at h
    cases hr : hostRead s reg <;> simp_all
  · simp at h

/-- Everything issue can do: an illegal word is turned away unless the block is busy; a legal one is its instruction's. -/
theorem commandIssue_next {w : CmdWords} (h : commandIssue w s = .next t) :
    (∃ i, decodeCommand w = .ok i ∧ exec i s = .next t) ∨
    (∃ e, decodeCommand w = .rejected e ∧
      (s.busy = true ∧ t = s ∨ s.busy = false ∧ t = s.reject .illegalCmd w.cw)) := by
  unfold commandIssue at h
  split at h <;> rename_i hd
  · exact .inl ⟨_, hd, h⟩
  · refine .inr ⟨_, hd, ?_⟩
    cases hb : s.busy
    · rw [State.unlessBusy_of_free hb] at h
      exact .inr ⟨rfl, by simpa using h.symm⟩
    · rw [State.unlessBusy_of_busy hb] at h
      exact .inl ⟨rfl, by simpa using h.symm⟩

/-- What an opcode can stand for. -/
theorem instrOfOp_some {op pin : U8} {a0 a1 : U64} {i : Instr} (h : instrOfOp op pin a0 a1 = some i) :
    i = .nop ∨ i = .portRd32 a0 a1 ∨ i = .portWr32 a0 a1 ∨ i = .portRd64 a0 a1 ∨ i = .twRead pin a0 a1 ∨
    i = .auxRead pin a0 a1 ∨ i = .acquire a0 a1 ∨ i = .bringup a0 a1 ∨ i = .decode a0 a1 ∨ i = .apply a0 a1 ∨
    i = .modeQuery a0 a1 := by
  unfold instrOfOp at h
  repeat' split at h
  all_goals simp_all only [Option.some.injEq, reduceCtorEq]
  all_goals subst h; simp

/-- A word decodes to an instruction only if its opcode stands for it. -/
theorem decodeCommand_ok {w : CmdWords} {i : Instr} (h : decodeCommand w = .ok i) :
    cwRsvd w.cw = 0 ∧ instrOfOp (cwOp w.cw) (cwPin w.cw) w.a0 w.a1 = some i ∧
    (takesPin (cwOp w.cw) = true ∨ cwPin w.cw = 0) := by
  unfold decodeCommand at h
  split at h
  · split at h
    · split at h <;> simp_all
    · simp at h
  · simp at h

/-- A host command never decodes to a word the block itself writes. -/
theorem decodeCommand_isCommand {w : CmdWords} {i : Instr} (h : decodeCommand w = .ok i) :
    (∀ a, i ≠ .auxIndexWrite a) ∧ (∀ a, i ≠ .auxWriteProbe a) ∧ (∀ a, i ≠ .auxReadByte a) ∧
    (∀ a, i ≠ .twIndexWriteCycle a) ∧ (∀ a, i ≠ .twReadCycle a) := by
  rcases instrOfOp_some (decodeCommand_ok h).2.1 with h | h | h | h | h | h | h | h | h | h | h <;> subst h <;> simp

end Sys2Proof.Machine
end

