-- ==== Sys2Proof/Laws/PerInstr.lean ====
section
/-! SUPPORT. Statements about every instruction as syntax, one lemma per constructor. -/

namespace Sys2Proof.Laws

namespace TableRow

/-- The word an instruction is encoded to. -/
def wordOf : Encoded → U32
  | .command w   => w.cw
  | .auxHeader w => w
  | .twCommand w => w

/-- The match and mask of each instruction's row, as spec/opcode_table.json has them. The table fixes all bits of the two
two-wire rows, the peripheral address among them. -/
def row : Instr → U32 × U32
  | .nop                 => (0x00000000, 0xFFFFFFFF)
  | .portRd32 _ _        => (0x00000001, 0xFFFFFFFF)
  | .portWr32 _ _        => (0x00000002, 0xFFFFFFFF)
  | .portRd64 _ _        => (0x00000003, 0xFFFFFFFF)
  | .twRead _ _ _        => (0x00000010, 0xFFFF00FF)
  | .auxRead _ _ _       => (0x00000011, 0xFFFF00FF)
  | .acquire _ _         => (0x00000012, 0xFFFFFFFF)
  | .bringup _ _         => (0x00000013, 0xFFFFFFFF)
  | .decode _ _          => (0x00000020, 0xFFFFFFFF)
  | .apply _ _           => (0x00000030, 0xFFFFFFFF)
  | .modeQuery _ _       => (0x00000031, 0xFFFFFFFF)
  | .auxIndexWrite _     => (0x40000000, 0xFF0000FF)
  | .auxWriteProbe _     => (0x00000000, 0xFF0000FF)
  | .auxReadByte _       => (0x10000000, 0xFF0000FF)
  | .twIndexWriteCycle _ => (0x420100A0, 0xFFFFFFFF)
  | .twReadCycle _       => (0x428000A1, 0xFFFFFFFF)

/-- The peripheral address the two-wire rows of the table fix. -/
def addrIsTable : Instr → Prop
  | .twIndexWriteCycle a => a = 0x50
  | .twReadCycle a       => a = 0x50
  | _                    => True

/-- With the default configuration, from which the table was made, an instruction's word has the bits its row fixes. -/
def Statement (i : Instr) : Prop :=
  addrIsTable i → wordOf (encode Cfg.default i) &&& (row i).2 = (row i).1

theorem nop : Statement .nop := fun _ => by decide

theorem portRd32 (a0 a1 : U64) : Statement (.portRd32 a0 a1) := fun _ => by
  show commandWord Op.portRd32 0 &&& (0xFFFFFFFF : U32) = 0x00000001; decide

theorem portWr32 (a0 a1 : U64) : Statement (.portWr32 a0 a1) := fun _ => by
  show commandWord Op.portWr32 0 &&& (0xFFFFFFFF : U32) = 0x00000002; decide

theorem portRd64 (a0 a1 : U64) : Statement (.portRd64 a0 a1) := fun _ => by
  show commandWord Op.portRd64 0 &&& (0xFFFFFFFF : U32) = 0x00000003; decide

/-- The pin field of a command word lies in bits 15:8. -/
theorem pinField_mask (pin : U8) : (zext 32 pin <<< 8) &&& (0xFFFF00FF : U32) = (0 : U32) := by
  ext i hi
  interval_cases i <;> simp

/-- The opcode bits of a command word do not depend on the pin. -/
theorem commandWord_mask (op pin : U8) : commandWord op pin &&& (0xFFFF00FF : U32) = zext 32 op &&& (0xFFFF00FF : U32) := by
  unfold commandWord
  rw [BitVec.and_or_distrib_right, pinField_mask]
  simp

theorem twRead (pin : U8) (a0 a1 : U64) : Statement (.twRead pin a0 a1) := fun _ => commandWord_mask _ pin

theorem auxRead (pin : U8) (a0 a1 : U64) : Statement (.auxRead pin a0 a1) := fun _ => commandWord_mask _ pin

theorem acquire (a0 a1 : U64) : Statement (.acquire a0 a1) := fun _ => by
  show commandWord Op.acquire 0 &&& (0xFFFFFFFF : U32) = 0x00000012; decide

theorem bringup (a0 a1 : U64) : Statement (.bringup a0 a1) := fun _ => by
  show commandWord Op.bringup 0 &&& (0xFFFFFFFF : U32) = 0x00000013; decide

theorem decode (a0 a1 : U64) : Statement (.decode a0 a1) := fun _ => by
  show commandWord Op.decode 0 &&& (0xFFFFFFFF : U32) = 0x00000020; decide

theorem apply (a0 a1 : U64) : Statement (.apply a0 a1) := fun _ => by
  show commandWord Op.apply 0 &&& (0xFFFFFFFF : U32) = 0x00000030; decide

theorem modeQuery (a0 a1 : U64) : Statement (.modeQuery a0 a1) := fun _ => by
  show commandWord Op.modeQuery 0 &&& (0xFFFFFFFF : U32) = 0x00000031; decide

/-- The address field of a header lies in bits 23:8. -/
theorem addrField_mask (addr : U16) : (zext 32 addr <<< 8) &&& (0xFF0000FF : U32) = (0 : U32) := by
  ext i hi
  interval_cases i <;> simp

/-- The operation and length bits of a header do not depend on the address. -/
theorem auxHdr_mask (op : BitVec 4) (addr : U16) :
    Machine.auxHdr op addr 0 &&& (0xFF0000FF : U32) = zext 32 op <<< 28 := by
  have hop : ∀ op : BitVec 4, (zext 32 op <<< 28) &&& (0xFF0000FF : U32) = (zext 32 op <<< 28 : U32) := by decide
  unfold Machine.auxHdr
  rw [BitVec.and_or_distrib_right, BitVec.and_or_distrib_right, hop, addrField_mask]
  simp

theorem auxIndexWrite (addr : U16) : Statement (.auxIndexWrite addr) := fun _ => auxHdr_mask _ addr

theorem auxWriteProbe (addr : U16) : Statement (.auxWriteProbe addr) := fun _ => auxHdr_mask _ addr

theorem auxReadByte (addr : U16) : Statement (.auxReadByte addr) := fun _ => auxHdr_mask _ addr

theorem twIndexWriteCycle (a : BitVec 7) : Statement (.twIndexWriteCycle a) := by
  intro h; obtain rfl : a = 0x50 := h; decide

theorem twReadCycle (a : BitVec 7) : Statement (.twReadCycle a) := by
  intro h; obtain rfl : a = 0x50 := h; decide

end TableRow

end Sys2Proof.Laws
end

