-- ==== Sys2Proof/Machine/Asm.lean ====
section
/-! DEFINITION. The textual syntax of commands (30_encoding.md R84): one command a line, mnemonic in capitals, operands separated by
commas, numbers in C notation; the pseudo-commands `MODE_SET` and `WAIT`. A line is a list of characters. -/

namespace Sys2Proof.Machine

/-- A digit's value. -/
def digitValue (c : Char) : Option Nat :=
  let n := c.toNat
  if 48 ≤ n ∧ n ≤ 57 then some (n - 48)
  else if 97 ≤ n ∧ n ≤ 102 then some (n - 87)
  else if 65 ≤ n ∧ n ≤ 70 then some (n - 55)
  else none

/-- Digits in a base, after the digits already read. -/
def parseDigits (base acc : Nat) : List Char → Option Nat
  | [] => some acc
  | c :: cs =>
    match digitValue c with
    | some d => if d < base then parseDigits base (acc * base + d) cs else none
    | none   => none

/-- A number in C notation: hexadecimal after `0x`, octal after `0`, else decimal. -/
def parseNumber : List Char → Option Nat
  | []                    => none
  | ['0', 'x']            => none
  | ['0', 'X']            => none
  | '0' :: 'x' :: cs      => parseDigits 16 0 cs
  | '0' :: 'X' :: cs      => parseDigits 16 0 cs
  | '0' :: cs             => parseDigits 8 0 cs
  | cs                    => parseDigits 10 0 cs

/-- The pieces of a list between separators. -/
def splitAtChar (sep : Char) : List Char → List (List Char)
  | [] => [[]]
  | c :: cs =>
    if c = sep then [] :: splitAtChar sep cs
    else
      match splitAtChar sep cs with
      | []      => [[c]]
      | p :: ps => (c :: p) :: ps

/-- Every number of a list of pieces. -/
def parseNumbers : List (List Char) → Option (List Nat)
  | [] => some []
  | p :: ps =>
    match parseNumber p, parseNumbers ps with
    | some n, some ns => some (n :: ns)
    | _, _            => none

/-- A number that fits an operand or a pin. -/
def fits (w n : Nat) : Option (BitVec w) := if n < 2 ^ w then some (BitVec.ofNat w n) else none

/-- A command with no operand. -/
def asm0 (i : Instr) : List Nat → Option Instr
  | [] => some i
  | _  => none

/-- A command with one 64-bit operand. -/
def asm1 (i : U64 → Instr) : List Nat → Option Instr
  | [n] => (fits 64 n).map i
  | _   => none

/-- A command with two 64-bit operands. -/
def asm2 (i : U64 → U64 → Instr) : List Nat → Option Instr
  | [n, m] =>
    match fits 64 n, fits 64 m with
    | some a, some b => some (i a b)
    | _, _           => none
  | _ => none

/-- A command with a pin. -/
def asmPin (i : U8 → Instr) : List Nat → Option Instr
  | [n] => (fits 8 n).map i
  | _   => none

/-- The mnemonics of R84, with `MODE_SET` as the second spelling of `APPLY`; an ignored operand is written as 0. -/
def asmTable : List (List Char × (List Nat → Option Instr)) :=
  [ (['N', 'O', 'P'], asm0 .nop),
    (['P', 'O', 'R', 'T', '_', 'R', 'D', '3', '2'], asm1 fun a => .portRd32 a 0),
    (['P', 'O', 'R', 'T', '_', 'W', 'R', '3', '2'], asm2 .portWr32),
    (['P', 'O', 'R', 'T', '_', 'R', 'D', '6', '4'], asm1 fun a => .portRd64 a 0),
    (['T', 'W', '_', 'R', 'E', 'A', 'D'], asmPin fun p => .twRead p 0 0),
    (['A', 'U', 'X', '_', 'R', 'E', 'A', 'D'], asmPin fun p => .auxRead p 0 0),
    (['A', 'C', 'Q', 'U', 'I', 'R', 'E'], asm0 (.acquire 0 0)),
    (['B', 'R', 'I', 'N', 'G', 'U', 'P'], asm0 (.bringup 0 0)),
    (['D', 'E', 'C', 'O', 'D', 'E'], asm0 (.decode 0 0)),
    (['A', 'P', 'P', 'L', 'Y'], asm2 .apply),
    (['M', 'O', 'D', 'E', '_', 'S', 'E', 'T'], asm2 .apply),
    (['M', 'O', 'D', 'E', '_', 'Q', 'U', 'E', 'R', 'Y'], asm0 (.modeQuery 0 0)) ]

/-- The row of a mnemonic. -/
def asmLookup (m : List Char) : List (List Char × (List Nat → Option Instr)) → Option (List Nat → Option Instr)
  | [] => none
  | (k, f) :: rows => if k = m then some f else asmLookup m rows

/-- The mnemonic of a line (up to the first blank) and its operands without blanks, in pieces between commas. -/
def asmPieces (line : List Char) : List Char × List (List Char) :=
  let m := line.takeWhile fun c => c != ' '
  let rest := (line.dropWhile fun c => c != ' ').filter fun c => c != ' '
  (m, if rest = [] then [] else splitAtChar ',' rest)

/-- The instruction of a command line. -/
def assembleInstr (line : List Char) : Option Instr :=
  let p := asmPieces line
  match asmLookup p.1 asmTable, parseNumbers p.2 with
  | some f, some ns => f ns
  | _, _            => none

/-- The host's move for one line of a program: `WAIT`, or the issue of the line's command. The encoding of a command does not
depend on the configuration. -/
def assembleLine (line : List Char) : Option HostEvent :=
  if line = ['W', 'A', 'I', 'T'] then some .wait
  else
    match assembleInstr line with
    | some i =>
      match encode Cfg.default i with
      | .command w => some (.issue w.cw w.a0 w.a1)
      | .auxHeader _ => none
      | .twCommand _ => none
    | none => none

end Sys2Proof.Machine
end

