-- ==== Sys2Proof/Tests/Slice0.lean ====
section
/-! SUPPORT. Tests. The expected values are the spec's own: T-… names a vector of 95_test_vectors.md, R… a rule; the others are
worked out by hand from the rule named. The last part shows, for each statement with hypotheses, a case that meets them. -/

namespace Sys2Proof.Tests

open Sys2Proof.Machine

/-! ## Small states -/

/-- A block running a command, in phase `p`. -/
def inPhase (p : Phase) : State := { State.reset with pc := p, busy := true }

/-- The same, with one answer of the device waiting. -/
def inPhaseWith (p : Phase) (v : U64) : State := { inPhase p with devIn := [v] }

/-- What `f` says of the next state, if there is one. -/
def after {α : Type} (o : Outcome) (f : State → α) : Option α :=
  match o with
  | .next t    => some (f t)
  | .fault x   => nomatch x
  | .refused _ => none

/-- The refusal of an outcome, if it is one. -/
def refusalOf : Outcome → Option Refusal
  | .next _    => none
  | .fault x   => nomatch x
  | .refused r => some r

/-- A buffer with bytes placed from `i` on. -/
def placeBytes (b : Vector U8 128) (i : Nat) : List U8 → Vector U8 128
  | [] => b
  | x :: xs => placeBytes (b.setIfInBounds i x) (i + 1) xs

/-- The block `EA` of 95_test_vectors.md. -/
def ea : Vector U8 128 :=
  placeBytes (placeBytes (Vector.replicate 128 0) 0 [0x00, 0xFF, 0xFF, 0xFF, 0xFF, 0xFF, 0xFF, 0x00]) 54
    [0xD8, 0x36, 0x80, 0xA0, 0x70, 0x38, 0x2D, 0x40, 0x30, 0x20, 0x35, 0x00]

/-- The timing set of Scenario A (T-D1, first row). -/
def timingA : TimingSet := ⟨140400, 1920, 1968, 2000, 2080, 1080, 1083, 1088, 1125⟩

/-- A block that holds `EA` and its timing set. -/
def decoded : State :=
  { State.reset with edid := ea, edidValid := true, timing := timingA, timingValid := true, tblHres := 1920, tblVres := 1080 }

/-- `decoded` in a phase of `APPLY`. -/
def applying (p : Phase) : State := { decoded with pc := p, busy := true, cmdOp := Op.apply }

/-! ## Well-formedness: for each check a term it accepts and one it refuses -/

theorem test_wf_port_rd32 : Instr.wf Cfg.default (.portRd32 0xC5108 0) = true ∧
    Instr.wf Cfg.default (.portRd32 0xC5109 0) = false ∧ Instr.wf Cfg.default (.portRd32 0x100000000 0) = false := by decide
theorem test_wf_port_wr32 : Instr.wf Cfg.default (.portWr32 0xC5100 4) = true ∧
    Instr.wf Cfg.default (.portWr32 0xC5102 4) = false ∧ Instr.wf Cfg.default (.portWr32 0x1000C5100 4) = false ∧
    Instr.wf Cfg.default (.portWr32 0xC5100 0x100000000) = false := by decide
theorem test_wf_port_rd64 : Instr.wf Cfg.default (.portRd64 8 0) = true ∧ Instr.wf Cfg.default (.portRd64 4 0) = false ∧
    Instr.wf Cfg.default (.portRd64 0x100000000 0) = false := by decide
theorem test_wf_pins : Instr.wf Cfg.default (.twRead 2 0 0) = true ∧ Instr.wf Cfg.default (.twRead 1 0 0) = false ∧
    Instr.wf Cfg.default (.twRead 7 0 0) = false ∧ Instr.wf Cfg.default (.auxRead 5 0 0) = true ∧
    Instr.wf Cfg.default (.auxRead 6 0 0) = false := by decide
/-- The operand pairs of T-A3. -/
theorem test_wf_apply : Instr.wf Cfg.default (.apply 0x1FFFFFFFF 0x100000000) = true ∧
    Instr.wf Cfg.default (.apply 0x200000000 0x100000000) = false ∧ Instr.wf Cfg.default (.apply 0x1000 0x2000) = false := by
  decide
theorem test_wf_wire_words : Instr.wf Cfg.default (.auxIndexWrite 0x50) = true ∧
    Instr.wf Cfg.default (.auxIndexWrite 0x51) = false ∧ Instr.wf Cfg.default (.auxWriteProbe 0x150) = false ∧
    Instr.wf Cfg.default (.auxReadByte 0) = false ∧ Instr.wf Cfg.default (.twIndexWriteCycle 0x51) = false ∧
    Instr.wf Cfg.default (.twReadCycle 0x4F) = false := by decide

/-! R10, R11: one ill-formed configuration for each constraint. -/
theorem test_cfg_offsets : Cfg.wf { Cfg.default with htotalOff := 0x60002 } = false ∧
    Cfg.wf { Cfg.default with htotalOff := 0xC5100 } = false := by decide
theorem test_cfg_two_wire : Cfg.wf { Cfg.default with twCmdSwRdy := 3 } = false ∧
    Cfg.wf { Cfg.default with twCmdCycleWait := 0x00010000 } = false ∧ Cfg.wf { Cfg.default with twCmdCountWidth := 7 } = false ∧
    Cfg.wf { Cfg.default with twCmdDirWrite := 1 } = false ∧ Cfg.wf { Cfg.default with twStHwRdy := 0 } = false ∧
    Cfg.wf { Cfg.default with twStBusErr := 0xC00 } = false ∧ Cfg.wf { Cfg.default with twStBusErr := 0x800 } = false := by decide
theorem test_cfg_others : Cfg.wf { Cfg.default with auxCtlTuning := 0x00100000 } = false ∧
    Cfg.wf { Cfg.default with dtdOff := 111 } = false ∧ Cfg.wf { Cfg.default with dtdOff := 110 } = true ∧
    Cfg.wf { Cfg.default with pipeconfEnable := 0 } = false ∧ Cfg.wf { Cfg.default with pipeconfActive := 3 } = false ∧
    Cfg.wf { Cfg.default with pipeconfActive := 0x80000000 } = false := by decide

/-! ## Decoding: every constructor, from a word written out from R81, R86 and R90 (T-E1 to T-E3) -/

theorem test_decode_nop : decodeTableWord 32 0x00000000 = some .nop := by decide
theorem test_decode_port_rd32 : decodeCommand ⟨0x00000001, 0xC5108, 0⟩ = .ok (.portRd32 0xC5108 0) := by decide
theorem test_decode_port_wr32 : decodeCommand ⟨0x00000002, 0xC5100, 4⟩ = .ok (.portWr32 0xC5100 4) := by decide
theorem test_decode_port_rd64 : decodeCommand ⟨0x00000003, 0, 0⟩ = .ok (.portRd64 0 0) := by decide
theorem test_decode_tw_read : decodeTableWord 32 0x00000410 = some (.twRead 4 0 0) := by decide
theorem test_decode_aux_read : decodeTableWord 32 0x00000211 = some (.auxRead 2 0 0) := by decide
theorem test_decode_acquire : decodeTableWord 32 0x00000012 = some (.acquire 0 0) := by decide
theorem test_decode_bringup : decodeTableWord 32 0x00000013 = some (.bringup 0 0) := by decide
theorem test_decode_decode : decodeTableWord 32 0x00000020 = some (.decode 0 0) := by decide
theorem test_decode_apply : decodeCommand ⟨0x00000030, 0x80000000, 0x80000000⟩ = .ok (.apply 0x80000000 0x80000000) := by decide
theorem test_decode_mode_query : decodeTableWord 32 0x00000031 = some (.modeQuery 0 0) := by decide
theorem test_decode_aux_index_write : decodeTableWord 32 0x40005000 = some (.auxIndexWrite 0x50) := by decide
theorem test_decode_aux_write_probe : decodeTableWord 32 0x00005000 = some (.auxWriteProbe 0x50) := by decide
theorem test_decode_aux_read_byte : decodeTableWord 32 0x10005100 = some (.auxReadByte 0x51) := by decide
theorem test_decode_tw_index_write_cycle : decodeTableWord 32 0x420100A0 = some (.twIndexWriteCycle 0x50) := by decide
theorem test_decode_tw_read_cycle : decodeTableWord 32 0x428000A1 = some (.twReadCycle 0x50) := by decide
/-- A table word may reach into the operands (bit 32 is bit 0 of `a0`, bit 96 is bit 0 of `a1`). -/
theorem test_decode_operand_bits : decodeTableWord 160 (0x30 + 7 * 2 ^ 32 + 9 * 2 ^ 96) = some (.apply 7 9) := by decide
/-- T-I1, T-I2, T-I3, T-I11; no request header (bit 24 set); a length field the block never sends (T-E3). -/
theorem test_decode_rejections : decodeCommand ⟨0x000000FF, 0, 0⟩ = .rejected .unknownOpcode ∧
    decodeCommand ⟨0x00010012, 0, 0⟩ = .rejected .reservedBits ∧ decodeCommand ⟨0x00000112, 0, 0⟩ = .rejected .pinNotTaken ∧
    decodeCommand ⟨0x00000120, 0, 0⟩ = .rejected .pinNotTaken ∧
    decodeAuxHeader Cfg.default 0x41005000 = .rejected .notAuxHeader ∧
    decodeAuxHeader Cfg.default 0x1000500F = .rejected .notAuxHeader ∧
    decodeTwCommand Cfg.default 0x420200A0 = .rejected .notTwoWireCycle := by decide

/-! ## Placing a word, and the textual syntax (R84) -/

theorem test_place_command : step (State.reset.withFetchWord 32 0x00000013) = exec (.bringup 0 0) State.reset := by rfl
theorem test_place_wire_word : after (step (State.reset.withFetchWord 32 0x10005000)) (fun t => t.hist) =
    some [.wr32 0x64014 0x10005000] := by decide
theorem test_asm_port : assembleLine "PORT_WR32 0xC5100, 4".toList = some (.issue 0x00000002 0xC5100 4) := by decide
theorem test_asm_mode_set : assembleLine "MODE_SET 0x90100000, 0x90000000".toList =
    some (.issue 0x00000030 0x90100000 0x90000000) := by decide
theorem test_asm_pin_and_wait : assembleLine "AUX_READ 2".toList = some (.issue 0x00000211 0 0) ∧
    assembleLine "WAIT".toList = some .wait ∧ assembleLine "BLIT".toList = none := by decide

/-! ## Command issue -/

/-- T-I1, T-I4, T-I5, T-I6, T-I7. -/
theorem test_issue_turned_away :
    after (commandIssue ⟨0x000000FF, 0, 0⟩ State.reset) (fun t => (t.result, t.resultInfo, t.busy)) =
      some (.illegalCmd, 0x000000FF, false) ∧
    after (commandIssue ⟨0x00000110, 0, 0⟩ State.reset) (fun t => (t.result, t.resultInfo)) = some (.badOperand, 0x110) ∧
    after (commandIssue ⟨0x00000710, 0, 0⟩ State.reset) (fun t => (t.result, t.resultInfo)) = some (.badOperand, 0x710) ∧
    after (commandIssue ⟨0x00000611, 0, 0⟩ State.reset) (fun t => (t.result, t.resultInfo)) = some (.badOperand, 0x611) ∧
    after (commandIssue ⟨0x00000001, 0x0000000100000000, 0⟩ State.reset) (fun t => t.result) = some .badOperand := by decide
/-- T-I8, T-I9, T-I10. -/
theorem test_issue_not_ready_and_busy :
    after (commandIssue ⟨0x00000020, 0, 0⟩ State.reset) (fun t => (t.result, t.resultInfo)) = some (.notReady, 0x20) ∧
    after (commandIssue ⟨0x00000030, 0, 0⟩ State.reset) (fun t => (t.result, t.resultInfo)) = some (.notReady, 0x30) ∧
    after (commandIssue ⟨0x00000000, 0, 0⟩ { inPhase .twWaitIdle with result := .busError }) (fun t => (t.result, t.pc)) =
      some (.busError, .twWaitIdle) := by decide
/-- T-I12. -/
theorem test_nop : after (exec .nop { State.reset with result := .busError, resultInfo := 5 })
    (fun t => (t.result, t.resultInfo, t.busy)) = some (.ok, 0, false) := by decide
/-- T-I13; T-A3. -/
theorem test_refused_operands : refusalOf (exec (.portRd32 0xC5109 0) State.reset) = some .misalignedOffset ∧
    refusalOf (exec (.apply 0x200000000 0x100000000) decoded) = some .framebufferOutsideAperture ∧
    refusalOf (exec (.apply 0x1000 0x2000) decoded) = some .framebufferOutsideAperture := by decide

/-! ## The Register Port -/

/-- T-R1. -/
theorem test_port_rd32 : after (step { inPhaseWith .ptRd32 0x00000800 with arg0 := 0xC5108 })
    (fun t => (t.hist, t.rdata, t.result, t.resultInfo, t.pc)) =
    some ([.rd32 0xC5108 0x00000800], 0x0000000000000800, .ok, 0x00000800, .idle) := by decide
/-- T-R2. -/
theorem test_port_wr32 : after (step { inPhase .ptWr32 with arg0 := 0xC5100, arg1 := 4, rdata := 9 })
    (fun t => (t.hist, t.rdata, t.result, t.resultInfo)) = some ([.wr32 0xC5100 4], 9, .ok, 0) := by decide
/-- T-R3. -/
theorem test_port_rd64 : after (step (inPhaseWith .ptRd64 0x0123456789ABCDEF)) (fun t => (t.hist, t.rdata, t.resultInfo)) =
    some ([.rd64 0 0x0123456789ABCDEF], 0x0123456789ABCDEF, 0x89ABCDEF) ∧
    portByte (0x0123456789ABCDEF : U64) 0 = 0xEF ∧ portByte (0x0123456789ABCDEF : U64) 7 = 0x01 := by decide

/-! ## The two-wire attempt -/

/-- R143, R133: `TW_READ 4` and its first access (T-W1). -/
theorem test_tw_read : after (exec (.twRead 4 0 0) decoded) (fun t => (t.pc, t.pin, t.cmdOp, t.edidValid, t.timingValid)) =
    some (.twSel, 4, 0x10, false, false) ∧
    after (step { inPhase .twSel with pin := 4 }) (fun t => (t.hist, t.pc)) = some ([.wr32 0xC5100 4], .twWaitIdle) := by decide
/-- T-W2, T-W3: the bus error wins. -/
theorem test_tw_unavailable : after (step { inPhaseWith .twWaitIdle 0xC00 with cmdOp := 0x10 })
    (fun t => (t.result, t.resultInfo, t.pc, t.busy)) = some (.transportUnavailable, 0, .idle, false) := by decide
/-- T-W7 and T-W5: a bus error at the index poll goes on, at a word poll it stops the read early. -/
theorem test_tw_bus_error : after (step (inPhaseWith .twWaitIdx 0x400)) (fun t => t.pc) = some .twRdCmd ∧
    after (step (inPhaseWith .twWaitWord 0xC00)) (fun t => (t.pc, t.twShort)) = some (.twWaitStop, true) := by decide
/-- T-W9. -/
theorem test_tw_byte_placement : after (step { inPhaseWith .twRdWord 0x44332211 with idx := 8 })
    (fun t => (t.edid[8], t.edid[9], t.edid[10], t.edid[11], t.edid[12], t.idx)) =
    some (0x11, 0x22, 0x33, 0x44, 0x00, 12) := by decide +kernel
/-- T-W5: the header is complete, the read short: rejected all the same. T-W8. -/
theorem test_tw_check : after (step { inPhase .twCheck with cmdOp := 0x10, edid := ea, idx := 8, twShort := true })
      (fun t => (t.result, t.resultInfo, t.edidValid)) = some (.busError, 8, false) ∧
    after (step { inPhase .twCheck with cmdOp := 0x10, edid := ea.set 0 1, idx := 128 })
      (fun t => (t.result, t.resultInfo, t.edidValid)) = some (.badHeader, 128, false) := by decide +kernel
/-- T-E2. -/
theorem test_tw_cycles : after (exec (.twIndexWriteCycle 0x50) State.reset) (fun t => (t.hist, t.pc)) =
      some ([.wr32 0xC5104 0x420100A0], .twWaitIdx) ∧
    after (exec (.twReadCycle 0x50) State.reset) (fun t => (t.hist, t.pc)) =
      some ([.wr32 0xC5104 0x428000A1], .twWaitWord) := by decide

/-! ## The auxiliary channel -/

/-- R166, and the header writes of T-X1, on pin 2. -/
theorem test_aux_headers : after (exec (.auxRead 2 0 0) State.reset) (fun t => (t.pc, t.pin)) = some (.axBegin, 2) ∧
    after (exec (.auxIndexWrite 0x50) { inPhase .axLoadHdr with pin := 2 }) (fun t => (t.hist, t.pc)) =
      some ([.wr32 0x64214 0x40005000], .axLoadData) ∧
    after (exec (.auxWriteProbe 0x50) { inPhase .axLoadHdr with pin := 2 }) (fun t => (t.hist, t.pc)) =
      some ([.wr32 0x64214 0x00005000], .axLoadData) ∧
    after (exec (.auxReadByte 0x50) { inPhase .axLoadHdr with pin := 2 }) (fun t => (t.hist, t.pc)) =
      some ([.wr32 0x64214 0x10005000], .axStart) := by decide
/-- T-E4, T-X7 (pin 5). -/
theorem test_aux_start : after (step { inPhase .axStart with pin := 5, auxOp := .indexWrite }) (fun t => t.hist) =
      some [.wr32 0x64510 0xDE5003FF] ∧
    after (step { inPhase .axStart with pin := 1, auxOp := .readByte }) (fun t => t.hist) =
      some [.wr32 0x64110 0xDE4003FF] := by decide
/-- T-E5. -/
theorem test_aux_clear_words : auxClear 0x40000000 = 0x52000000 ∧ auxClear 0x80000000 = 0xD2000000 ∧
    auxClear 0x00100000 = 0x52100000 ∧ auxClear 0xFFFFFFFF = 0xFFFFFFFF := by decide
/-- T-X5: the 16384th read is the last, whatever it answers; the one before it is not. -/
theorem test_aux_budget : after (step { inPhaseWith .axPoll 0x80000000 with polls := 16383 }) (fun t => (t.pc, t.polls)) =
      some (.axClear, 16384) ∧
    after (step { inPhaseWith .axPoll 0x80000000 with polls := 16382 }) (fun t => (t.pc, t.polls)) =
      some (.axPoll, 16383) := by decide
/-- T-X3: the probe's status is fatal, the index write's is not looked at. -/
theorem test_aux_probe_error :
    after (step { inPhase .axAfter with cmdOp := 0x11, auxOp := .writeProbe, auxSt := 0x42000000 }) (fun t => t.result) =
      some .auxTransactionError ∧
    after (step { inPhase .axAfter with cmdOp := 0x11, auxOp := .indexWrite, auxSt := 0x42000000 })
      (fun t => (t.pc, t.auxOp)) = some (.axLoadHdr, .writeProbe) := by decide
/-- T-X2. -/
theorem test_aux_fetch : after (step { inPhaseWith .axFetch 0xAAFF1234 with idx := 127, auxOp := .readByte })
    (fun t => (t.edid[127], t.edid[126], t.idx, t.pc)) = some (0xFF, 0x00, 128, .axCheck) := by decide +kernel

/-! ## The acquirer -/

/-- R175, R183: both searches start on two-wire pin 2 with the flags cleared. -/
theorem test_searches_start :
    after (exec (.acquire 0 0) decoded) (fun t => (t.pc, t.pin, t.edidValid, t.timingValid)) = some (.twSel, 2, false, false) ∧
    after (exec (.bringup 0 0) decoded) (fun t => (t.pc, t.pin, t.cmdOp)) = some (.twSel, 2, 0x13) := by decide
/-- R177, R179, R180: pin 6 falls back to auxiliary pin 0, auxiliary pin 5 fails. -/
theorem test_search_pins : after (step { inPhase .aqNextTw with pin := 5 }) (fun t => (t.pc, t.pin)) = some (.twSel, 6) ∧
    after (step { inPhase .aqNextTw with pin := 6 }) (fun t => (t.pc, t.pin)) = some (.axBegin, 0) ∧
    after (step { inPhase .aqNextAux with pin := 5 }) (fun t => t.pc) = some .aqFail ∧
    after (step (inPhase .aqFail)) (fun t => (t.result, t.resultInfo)) = some (.idNotFound, 0) := by decide
/-- The `RESULT_INFO` of P2 and of T-Q4. -/
theorem test_search_result :
    after (step { inPhase .aqDone with cmdOp := 0x12, foundTransport := .aux, foundPin := 5 })
      (fun t => (t.result, t.resultInfo)) = some (.ok, 0x00000105) ∧
    after (step { inPhase .aqDone with cmdOp := 0x13 }) (fun t => t.pc) = some .dcRun := by decide
/-- T-P1: only the first eight bytes count. -/
theorem test_magic : magic ea = true ∧ magic (ea.set 0 1) = false ∧ magic (ea.set 7 1) = false ∧ magic (ea.set 8 0xFF) = true ∧
    magic (Vector.replicate 128 0) = false ∧ magic (Vector.replicate 128 0xFF) = false := by decide +kernel

/-! ## The decoder -/

/-- T-D1, first row, through `DECODE`'s step. -/
theorem test_decode_block : after (step { decoded with pc := .dcRun, busy := true, cmdOp := 0x20, timing := ⟨0, 0, 0, 0, 0, 0, 0, 0, 0⟩ })
    (fun t => (t.timing, t.tblHres, t.tblVres, t.resultInfo)) = some (timingA, 1920, 1080, 0x07800438) := by decide +kernel
/-- T-D1, the row that uses every high-bit slice, and the all-ones row. -/
theorem test_decode_rows :
    unpackDescriptor ⟨0x30, 0x2A, 0x00, 0x08, 0x52, 0x00, 0x2A, 0x40, 0x2C, 0x04, 0x13, 0x56⟩ =
      ⟨10800, 1280, 520, 1024, 42, 300, 260, 17, 35⟩ ∧
    timingOf (unpackDescriptor ⟨0xFF, 0xFF, 0xFF, 0xFF, 0xFF, 0xFF, 0xFF, 0xFF, 0xFF, 0xFF, 0xFF, 0xFF⟩) =
      ⟨655350, 4095, 5118, 6141, 8190, 4095, 4158, 4221, 8190⟩ := by decide
/-- T-I8 (accepted once a block is held), R190. -/
theorem test_decode_issue : after (exec (.decode 0 0) decoded) (fun t => (t.pc, t.busy, t.timingValid)) =
    some (.dcRun, true, false) := by decide

/-! ## The Sequencer -/

/-- T-E6. -/
theorem test_timing_words : timingWord 1920 2080 = 0x081F077F ∧ timingWord 0 5 = 0xFFFFFFFF ∧ timingWord 5 0 = 0xFFFF0004 ∧
    timingWord 65537 1 = 0x00010000 := by decide
/-- T-P4. -/
theorem test_strides : stride 1366 = 5504 ∧ planeStrideWord 1366 = 86 ∧ stride 17 = 128 ∧ stride 4095 = 16384 ∧ stride 0 = 0 := by
  decide
/-- R210, and T-A1's vertical sync word. -/
theorem test_apply : after (exec (.apply 0x90100000 0x90000000) decoded) (fun t => (t.pc, t.cmdOp, t.grown)) =
      some (.apShift, 0x30, false) ∧
    after (step (applying .apVsync)) (fun t => (t.hist, t.pc)) = some ([.wr32 0x60014 0x043F043A], .apConfRd) := by decide
/-- T-A2: bits read are kept. T-A5: an inactive pipe is polled again. -/
theorem test_apply_pipe : after (step { applying .apConfWr with confTmp := 1 }) (fun t => t.hist) =
      some [.wr32 0x70008 0x80000001] ∧
    after (step { applying .apConfPoll with devIn := [0x80000000] }) (fun t => t.pc) = some .apConfPoll ∧
    after (step { applying .apConfPoll with devIn := [0xC0000000] }) (fun t => t.pc) = some .apPlOffset := by decide
/-- T-A3; P4: the mode published. -/
theorem test_apply_plane : after (step { applying .apPlSurf with arg0 := 0x90100000, arg1 := 0x90000000 }) (fun t => t.hist) =
      some [.wr32 0x7019C 0x00100000] ∧
    after (step { applying .apPlCtl with arg0 := 0x90100000 }) (fun t => (t.hist, t.mode)) =
      some ([.wr32 0x70180 0x84002000], ⟨1920, 1080, 7680, 0x90100000, 8294400⟩) := by decide
/-- T-A4: no second grow, and a failed grow. -/
theorem test_apply_publish :
    after (step { applying .apPublish with publishIn := [.tooSmall], grown := true }) (fun t => (t.result, t.configured)) =
      some (.publishFailed, false) ∧
    after (step { applying .apGrow with growIn := [.fail] }) (fun t => (t.result, t.configured)) =
      some (.resourceExhaustion, false) := by decide
/-- T-D2 (first row), T-Z1. -/
theorem test_mode_query : after (exec (.modeQuery 0 0) State.reset) (fun t => t.pc) = some .mqRun ∧
    after (step { decoded with pc := .mqRun, busy := true }) (fun t => (t.result, t.resultInfo)) = some (.ok, 0x07800438) ∧
    after (step (inPhase .mqRun)) (fun t => t.resultInfo) = some 0x04000300 := by decide

/-! ## Reset and the host's reads -/

/-- T-Z1, T-Z2. -/
theorem test_reset_event : after (step { inPhase .twWaitIdle with hostIn := [.reset], hist := [.wr32 0xC5100 2] })
    (fun t => (t.pc, t.busy, t.tblHres, t.tblVres, t.hist)) = some (.idle, false, 1024, 768, [.wr32 0xC5100 2]) := by decide
/-- R25, R30, U8. -/
theorem test_host_reads : hostRead (inPhase .twSel) .busy = some (.word 1) ∧ hostRead (inPhase .twSel) .result = none ∧
    hostRead decoded (.timing .hTotal) = some (.word 2080) ∧ hostRead decoded (.hidden .tblHres) = none ∧
    hostRead decoded (.mode .stride) = none := by decide

/-! ## For each statement with hypotheses, a case that meets them all

`wit_X` is about the statement `X`; the clauses of a statement are taken in its order. -/

/-- A *status* value with the ready flag, with the error flag, with neither (default masks). -/
def ready : U32 := 0x800
def busErr : U32 := 0x400
def neither : U32 := 0x000

theorem ready_is : twClassify Cfg.default ready = .ready := by decide
theorem busErr_is : twClassify Cfg.default busErr = .busErr := by decide
theorem neither_is : twClassify Cfg.default neither = .wait := by decide

theorem inactive_is : (0x80000001 : U32) &&& Cfg.default.pipeconfActive = 0 := by decide
theorem active_is : (0xC0000001 : U32) &&& Cfg.default.pipeconfActive ≠ 0 := by decide

/-- The script of a complete two-wire read that delivers the words `w`. -/
def twScript (w : Nat → U32) : List U64 :=
  answers ([ready, ready] ++ ((List.range 32).flatMap fun j => [ready, w j]) ++ [ready]) ++ [77]

/-- Words 0 and 1 of `EA`, others 0. -/
def eaWords (j : Nat) : U32 := if j = 0 then 0xFFFFFF00 else if j = 1 then 0x00FFFFFF else 0

theorem wit_ResetEventAlwaysReturnsToIdle : ∃ (s : State) (rest : List HostEvent),
    s.cfg.wf = true ∧ s.hostIn = .reset :: rest ∧ s.busy = true :=
  ⟨{ inPhase .twWaitIdle with hostIn := [.reset, .pass] }, [.pass], Cfg.default_wf, rfl, rfl⟩

theorem wit_CommandDecodeOfEncodeIsIdentity : ∃ i : Instr,
    (∀ a, i ≠ .auxIndexWrite a) ∧ (∀ a, i ≠ .auxWriteProbe a) ∧ (∀ a, i ≠ .auxReadByte a) ∧
    (∀ a, i ≠ .twIndexWriteCycle a) ∧ (∀ a, i ≠ .twReadCycle a) :=
  ⟨.apply 1 2, by simp, by simp, by simp, by simp, by simp⟩

theorem wit_CommandEncodeOfDecodeIsIdentity : ∃ (w : CmdWords) (i : Instr), decodeCommand w = .ok i ∧ i ≠ .nop :=
  ⟨⟨0x0000FF10, 1, 2⟩, .twRead 0xFF 1 2, by decide, by decide⟩

theorem wit_StepRunsTheDecodedInstruction :
    (∃ (s : State) (cw : U32) (a0 a1 : U64) (rest : List HostEvent) (i : Instr), s.cfg.wf = true ∧
      s.hostIn = .issue cw a0 a1 :: rest ∧ decodeCommand ⟨cw, a0, a1⟩ = .ok i) ∧
    (∀ hs : List HostEvent, hs = [] ∨ hs = [.pass] ∨ hs = [.wait] → ∀ p, p = .axLoadHdr ∨ p = .twIdxCmd ∨ p = .twRdCmd →
      ∃ s : State, s.cfg.wf = true ∧ s.hostIn = hs ∧ s.pc = p ∧ s.busy = true) ∧
    (∃ s : State, s.cfg.wf = true ∧ s.hostIn = [.wait] ∧ s.busy = false) :=
  ⟨⟨{ State.reset with hostIn := [.issue 0x12 0 0] }, 0x12, 0, 0, [], .acquire 0 0, Cfg.default_wf, rfl, by decide⟩,
    fun hs _ p hp => ⟨{ inPhase p with hostIn := hs }, Cfg.default_wf, rfl, rfl, by rcases hp with rfl | rfl | rfl <;> rfl⟩,
    ⟨{ State.reset with hostIn := [.wait] }, Cfg.default_wf, rfl, rfl⟩⟩

theorem wit_IssueChecksInOrder :
    (inPhase .twSel).busy = true ∧ State.reset.busy = false ∧
    illegalWord 0x00010012 ∧ illegalWord 0x000000FF ∧ illegalWord 0x00000112 ∧
    (∀ cw : U32, cw = 0x110 ∨ cw = 0x710 ∨ cw = 0x611 → ¬ illegalWord cw ∧ badOperands cw 0 0) ∧
    (∀ cw : U32, cw = 0x01 ∨ cw = 0x03 → ¬ illegalWord cw ∧ badOperands cw 0x100000000 0) ∧
    (¬ illegalWord 0x02 ∧ badOperands 0x02 0 0x100000000) ∧
    (∀ cw : U32, cw = 0x20 ∨ cw = 0x30 → ¬ illegalWord cw ∧ ¬ badOperands cw 0 0 ∧ notReadyFor State.reset cw) := by
  unfold illegalWord badOperands notReadyFor
  refine ⟨rfl, rfl, by decide, by decide, by decide, ?_, ?_, by decide, ?_⟩
  · rintro cw (rfl | rfl | rfl) <;> decide
  · rintro cw (rfl | rfl) <;> decide
  · rintro cw (rfl | rfl) <;> decide

theorem wit_StepDropsACommandIssuedWhileBusy : ∃ (s : State) (cw : U32) (a0 a1 : U64) (rest : List HostEvent),
    s.cfg.wf = true ∧ s.busy = true ∧ s.hostIn = .issue cw a0 a1 :: rest :=
  ⟨{ inPhase .axPoll with hostIn := [.issue 0x13 0 0] }, 0x13, 0, 0, [], Cfg.default_wf, rfl, rfl⟩

theorem wit_NopOnlyAnswersOk : ∃ s : State, s.busy = false := ⟨State.reset, rfl⟩

theorem wit_SearchCommandsStart : State.reset.busy = false ∧
    (∀ pin : U8, pin = 2 ∨ pin = 6 → 2 ≤ pin.toNat ∧ pin.toNat ≤ 6) ∧ (∀ pin : U8, pin = 0 ∨ pin = 5 → pin.toNat ≤ 5) :=
  ⟨rfl, by rintro pin (rfl | rfl) <;> decide, by rintro pin (rfl | rfl) <;> decide⟩

theorem wit_DecodeApplyAndModeQueryStart : decoded.busy = false ∧ decoded.edidValid = true ∧ decoded.timingValid = true ∧
    (∀ a0 a1 : U64, (a0, a1) = (5, 5) ∨ (a0, a1) = (0x1FFFFFFFF, 0x100000000) →
      a1.toNat ≤ a0.toNat ∧ a0.toNat - a1.toNat < 2 ^ 32) :=
  ⟨rfl, rfl, rfl, by simp only [Prod.mk.injEq]; rintro a0 a1 (⟨rfl, rfl⟩ | ⟨rfl, rfl⟩) <;> decide⟩

theorem wit_RefusedOperandsHaveNoStep : decoded.busy = false ∧ decoded.timingValid = true ∧
    (∃ a0 : U64, a0.toNat < 2 ^ 32 ∧ a0.toNat % 4 ≠ 0 ∧ a0.toNat % 8 ≠ 0) ∧ (∃ a1 : U64, a1.toNat < 2 ^ 32) ∧
    (∃ a0 : U64, a0.toNat < 2 ^ 32 ∧ a0.toNat % 8 ≠ 0 ∧ a0.toNat % 4 = 0) ∧
    (∀ a0 a1 : U64, (a0, a1) = (0x200000000, 0x100000000) ∨ (a0, a1) = (0x1000, 0x2000) →
      ¬ (a1.toNat ≤ a0.toNat ∧ a0.toNat - a1.toNat < 2 ^ 32)) :=
  ⟨rfl, rfl, ⟨0xFFFFFFFF, by decide⟩, ⟨0xFFFFFFFF, by decide⟩, ⟨4, by decide⟩,
    by simp only [Prod.mk.injEq]; rintro a0 a1 (⟨rfl, rfl⟩ | ⟨rfl, rfl⟩) <;> decide⟩

theorem wit_IllFormedConfigurationIsRefused : ∃ s : State, s.cfg.wf = false :=
  ⟨{ State.reset with cfg := { Cfg.default with dtdOff := 111 } }, by decide⟩

/-- Also of `PortWr32WritesOneWord` and `PortRd64ReadsOneDoubleWordIntoRdata`: the lowest and the highest offset. -/
theorem wit_PortRd32ReadsOneWordIntoRdata : State.reset.cfg.wf = true ∧ State.reset.hostIn = [] ∧ State.reset.busy = false ∧
    (∀ a0 : U64, a0 = 0 ∨ a0 = 0xFFFFFFF8 ∨ a0 = 0xFFFFFFFC → a0.toNat < 2 ^ 32 ∧ a0.toNat % 4 = 0) ∧
    (∀ a1 : U64, a1 = 0 ∨ a1 = 0xFFFFFFFF → a1.toNat < 2 ^ 32) ∧
    (∀ a0 : U64, a0 = 0 ∨ a0 = 0xFFFFFFF8 → a0.toNat < 2 ^ 32 ∧ a0.toNat % 8 = 0) :=
  ⟨Cfg.default_wf, rfl, rfl, by rintro a (rfl | rfl | rfl) <;> decide, by rintro a (rfl | rfl) <;> decide,
    by rintro a (rfl | rfl) <;> decide⟩

/-- Every clause that asks for a phase alone has this witness: `TwoWireCyclesWriteTheCommandRegister`,
`TwoWireAttemptSelectsThePinAndGivesIndexZero`, `SequencerWritesTheTimingRegisters`, `SequencerEnablesThePipe`,
`SequencerProgramsThePlane`. -/
theorem wit_phase_alone (p : Phase) : ∃ s : State, s.pc = p := ⟨inPhase p, rfl⟩

theorem wit_TwoWireWaitsEndOnTheirFlags :
    (∀ p, p = .twWaitIdle ∨ p = .twWaitIdx ∨ p = .twWaitWord ∨ p = .twWaitStop → (inPhase p).pc.twWait = true) ∧
    neither &&& Cfg.default.twStBusErr = 0 ∧ neither &&& Cfg.default.twStHwRdy = 0 ∧
    ready &&& Cfg.default.twStBusErr = 0 ∧ ready &&& Cfg.default.twStHwRdy ≠ 0 ∧
    busErr &&& Cfg.default.twStBusErr ≠ 0 ∧ (0xC00 : U32) &&& Cfg.default.twStBusErr ≠ 0 ∧
    (inPhaseWith .twWaitIdle (zext 64 ready)).read32Value Cfg.default.twStatusOff = ready := by
  refine ⟨?_, by decide, by decide, by decide, by decide, by decide, by decide, by decide⟩
  rintro p (rfl | rfl | rfl | rfl) <;> rfl

theorem wit_TwoWireWordIsStoredLowByteFirst : ∀ i : U8, i = 0 ∨ i = 124 →
    { inPhase .twRdWord with idx := i }.pc = .twRdWord ∧ { inPhase .twRdWord with idx := i }.idx.toNat + 4 ≤ 128 := by
  rintro i (rfl | rfl) <;> decide

theorem wit_FinishedAttemptIsAcceptedByItsHeaderAlone :
    (∃ s : State, s.pc = .twCheck ∧ (s.twShort = true ∨ s.idx.toNat < 128)) ∧
    (∃ s : State, s.pc = .twCheck ∧ s.twShort = false ∧ s.idx.toNat ≥ 128 ∧
      s.edid.toList.take 8 = [0x00, 0xFF, 0xFF, 0xFF, 0xFF, 0xFF, 0xFF, 0x00]) ∧
    (∃ s : State, s.pc = .twCheck ∧ s.twShort = false ∧ s.idx.toNat ≥ 128 ∧
      ¬ s.edid.toList.take 8 = [0x00, 0xFF, 0xFF, 0xFF, 0xFF, 0xFF, 0xFF, 0x00]) ∧
    (∃ s : State, s.pc = .axCheck ∧ s.edid.toList.take 8 = [0x00, 0xFF, 0xFF, 0xFF, 0xFF, 0xFF, 0xFF, 0x00]) ∧
    (∃ s : State, s.pc = .axCheck ∧ ¬ s.edid.toList.take 8 = [0x00, 0xFF, 0xFF, 0xFF, 0xFF, 0xFF, 0xFF, 0x00]) :=
  ⟨⟨{ inPhase .twCheck with idx := 124, edid := ea, twShort := true }, rfl, .inl rfl⟩,
    ⟨{ inPhase .twCheck with idx := 128, edid := ea }, rfl, rfl, by decide, by decide +kernel⟩,
    ⟨{ inPhase .twCheck with idx := 128 }, rfl, rfl, by decide, by decide +kernel⟩,
    ⟨{ inPhase .axCheck with edid := ea }, rfl, by decide +kernel⟩, ⟨inPhase .axCheck, rfl, by decide +kernel⟩⟩

theorem wit_AttemptEndSurfacesOrGoesOn : ∀ op : U8, op = 0x10 ∨ op = 0x11 ∨ op = 0x12 ∨ op = 0x13 →
    ({ State.reset with cmdOp := op }.cmdOp = 0x10 ∨ { State.reset with cmdOp := op }.cmdOp = 0x11) ∨
    ({ State.reset with cmdOp := op }.cmdOp ≠ 0x10 ∧ { State.reset with cmdOp := op }.cmdOp ≠ 0x11) := by
  rintro op (rfl | rfl | rfl | rfl) <;> decide

/-- Also of `SearchSucceedsOnTheFirstPin`, whose script this is. -/
theorem wit_TwReadStoresTheBlockTheDeviceDelivers : ∃ (s : State) (st w : Nat → U32) (rest : List U64),
    s.cfg.wf = true ∧ s.hostIn = [] ∧ s.busy = false ∧ twPinOk 2 = true ∧ twPinOk 6 = true ∧
    (∀ i, twClassify s.cfg (st i) = .ready) ∧ w 0 = 0xFFFFFF00 ∧ w 1 = 0x00FFFFFF ∧
    s.devIn = answers ([st 0, st 1] ++ ((List.range 32).flatMap fun j => [st (j + 2), w j]) ++ [st 34]) ++ rest :=
  ⟨{ State.reset with devIn := twScript eaWords }, fun _ => ready, eaWords, [77], Cfg.default_wf, rfl, rfl, by decide, by decide,
    fun _ => ready_is, rfl, rfl, rfl⟩

theorem wit_TwoWireWaitHasNoBound : ∀ p, p = .twWaitIdle ∨ p = .twWaitIdx ∨ p = .twWaitWord ∨ p = .twWaitStop →
    ∃ (s : State) (sts : List U32) (rest : List U64), s.cfg.wf = true ∧ s.hostIn = [] ∧ s.pc = p ∧ s.pc.twWait = true ∧
      (∀ v ∈ sts, twClassify s.cfg v = .wait) ∧ s.devIn = answers sts ++ rest ∧ sts.length = 3 := by
  intro p hp
  refine ⟨{ inPhase p with devIn := answers [neither, neither, neither] ++ [5] }, [neither, neither, neither], [5],
    Cfg.default_wf, rfl, rfl, ?_, ?_, rfl, rfl⟩
  · rcases hp with rfl | rfl | rfl | rfl <;> rfl
  · intro v hv
    obtain rfl : v = neither := by simpa using hv
    exact neither_is

/-- The pins with registers, at both ends: `AuxOperationsStartWithTheirHeader`, `AuxTransactionWrites`,
`AuxPollReadsControlOnce`, `AuxFetchStoresTheSecondReplyByte` (with `IDX` 0 and 127). -/
theorem wit_aux_pin : ∀ (p : Phase) (pin : U8), pin = 0 ∨ pin = 5 → ∃ (s : State) (a : AuxOffsets),
    s.pin = pin ∧ s.cfg.auxPins[s.pin.toNat]? = some a ∧ s.pc = p ∧ s.idx.toNat < 128 := by
  rintro p pin (rfl | rfl)
  · exact ⟨inPhase p, AuxOffsets.default 0, rfl, rfl, rfl, show (0 : U8).toNat < 128 by decide⟩
  · exact ⟨{ inPhase p with pin := 5, idx := 127 }, AuxOffsets.default 5, rfl, rfl, rfl, show (127 : U8).toNat < 128 by decide⟩

theorem wit_AuxAttemptRunsIndexWriteProbeThenReads :
    (∀ op, ∃ s : State, s.pc = .axAfter ∧ s.auxOp = op) ∧
    (∃ s : State, s.pc = .axAfter ∧ s.auxOp = .writeProbe ∧ s.auxSt.getLsbD 28 = true) ∧
    (∃ s : State, s.pc = .axAfter ∧ s.auxOp = .writeProbe ∧ s.auxSt.getLsbD 25 = true) ∧
    (∃ s : State, s.pc = .axAfter ∧ s.auxOp = .writeProbe ∧ s.auxSt.getLsbD 28 = false ∧ s.auxSt.getLsbD 25 = false) :=
  ⟨fun op => ⟨{ inPhase .axAfter with auxOp := op }, rfl, rfl⟩,
    ⟨{ inPhase .axAfter with auxOp := .writeProbe, auxSt := 0x50000000 }, rfl, rfl, by decide⟩,
    ⟨{ inPhase .axAfter with auxOp := .writeProbe, auxSt := 0x42000000 }, rfl, rfl, by decide⟩,
    ⟨{ inPhase .axAfter with auxOp := .writeProbe, auxSt := 0x40000000 }, rfl, rfl, by decide, by decide⟩⟩

/-- Both ways a transaction ends: the busy flag clears, and the 16384th read. -/
theorem wit_AuxTransactionRunsToItsClearingWrite : ∀ (op : AuxOp) (sts : List U32) (last : U32),
    (sts = [0x80000000] ∧ last = 0x40000000) ∨ (sts = List.replicate 16383 0x80000000 ∧ last = 0x80000000) →
    ∃ (s : State) (a : AuxOffsets) (rest : List U64), s.cfg.wf = true ∧ s.hostIn = [] ∧ s.pc = .axLoadHdr ∧ s.auxOp = op ∧
      s.cfg.auxPins[s.pin.toNat]? = some a ∧ (∀ v ∈ sts, v.getLsbD 31 = true) ∧ sts.length ≤ 16383 ∧
      (last.getLsbD 31 = false ∨ sts.length = 16383) ∧ s.devIn = answers (sts ++ [last]) ++ rest := by
  intro op sts last h
  refine ⟨{ inPhase .axLoadHdr with auxOp := op, devIn := answers (sts ++ [last]) ++ [5] }, AuxOffsets.default 0, [5],
    Cfg.default_wf, rfl, rfl, rfl, rfl, ?_, ?_, ?_, rfl⟩
  · rcases h with ⟨rfl, rfl⟩ | ⟨rfl, rfl⟩ <;> intro v hv
    · obtain rfl : v = 0x80000000 := by simpa using hv
      decide
    · obtain rfl : v = 0x80000000 := List.eq_of_mem_replicate hv
      decide
  · rcases h with ⟨rfl, rfl⟩ | ⟨rfl, rfl⟩
    · decide
    · rw [List.length_replicate]
  · rcases h with ⟨rfl, rfl⟩ | ⟨rfl, rfl⟩
    · exact .inl (by decide)
    · exact .inr List.length_replicate

theorem wit_AuxPollIsBounded : ∃ s : State, s.cfg.wf = true ∧ s.hostIn = [] ∧ s.pc = .axPoll ∧ s.polls = 0 ∧
    auxPinOk s.pin = true := ⟨inPhase .axPoll, Cfg.default_wf, rfl, rfl, rfl, by decide⟩

theorem wit_AuxReadAlwaysEnds : State.reset.cfg.wf = true ∧ State.reset.hostIn = [] ∧ State.reset.busy = false ∧
    (0 : U8).toNat ≤ 5 ∧ (5 : U8).toNat ≤ 5 := ⟨Cfg.default_wf, rfl, rfl, by decide, by decide⟩

theorem wit_AcquirerMovesThroughThePins :
    (∀ p pin op, ∃ s : State, s.pc = p ∧ s.pin = pin ∧ s.cmdOp = op) ∧
    (5 : U8).toNat < 6 ∧ ¬ (6 : U8).toNat < 6 ∧ (4 : U8).toNat < 5 ∧ ¬ (5 : U8).toNat < 5 :=
  ⟨fun p pin op => ⟨{ inPhase p with pin := pin, cmdOp := op }, rfl, rfl, rfl⟩, by decide, by decide, by decide, by decide⟩

theorem wit_SearchFailsAfterElevenAttempts : ∃ (s : State) (tw ix pr : Nat → U32) (rest : List U64),
    s.cfg.wf = true ∧ s.hostIn = [] ∧ s.busy = false ∧ (∀ i, twClassify s.cfg (tw i) = .busErr) ∧
    (∀ i, auxBusy (ix i) = false) ∧ (∀ i, auxBusy (pr i) = false ∧ auxError (pr i) = true) ∧
    s.devIn = answers (((List.range 5).map tw) ++ (List.range 6).flatMap fun p => [ix p, pr p]) ++ rest :=
  ⟨{ State.reset with devIn := answers (((List.range 5).map fun _ => busErr) ++
      (List.range 6).flatMap fun _ => [0x40000000, 0x42000000]) ++ [5] },
    fun _ => busErr, fun _ => 0x40000000, fun _ => 0x42000000, [5], Cfg.default_wf, rfl, rfl, fun _ => busErr_is,
    fun _ => show auxBusy 0x40000000 = false by decide,
    fun _ => show auxBusy 0x42000000 = false ∧ auxError 0x42000000 = true by decide, rfl⟩

theorem wit_SearchTriesPinsInOrder : ∃ (s t u : State) (n : Nat), s.cfg.wf = true ∧ s.hostIn = [] ∧ s.busy = false ∧
    exec (.acquire 0 0) s = .next t ∧ run n t = .next u ∧ n = 1 :=
  ⟨State.reset, _, _, 1, Cfg.default_wf, rfl, rfl, rfl, rfl, rfl⟩

/-- The bytes are those of `ea` at the default `DTD_OFF`; the fields are what they come to, so only the state has to exist. -/
theorem wit_DecoderWritesTheTimingSetOfTheBlock : ∀ op : U8, op = 0x20 ∨ op = 0x13 → ∃ (s : State) (D : Nat → U8),
    s.pc = .dcRun ∧ s.cmdOp = op ∧ (∀ k, k < 12 → s.edid[s.cfg.dtdOff + k]? = some (D k)) ∧ D 2 ≠ 0 := by
  refine fun op _ => ⟨{ inPhase .dcRun with edid := ea, cmdOp := op }, fun k => ea[54 + k]?.getD 0, rfl, rfl, fun k hk => ?_,
    by decide +kernel⟩
  show ea[54 + k]? = some (ea[54 + k]?.getD 0)
  rw [Vector.getElem?_eq_getElem (by omega : 54 + k < 128), Option.getD_some]

theorem wit_DecodeCommandCompletes : decoded.cfg.wf = true ∧ decoded.hostIn = [] ∧ decoded.busy = false ∧
    decoded.edidValid = true := ⟨Cfg.default_wf, rfl, rfl, rfl⟩

theorem wit_DescriptorRoundTrip : ∃ f : DescriptorFields, f.pixclkRaw.toNat < 65536 ∧ f.hActive.toNat < 4096 ∧
    f.hBlank.toNat < 4096 ∧ f.vActive.toNat < 4096 ∧ f.vBlank.toNat < 4096 ∧ f.hSyncOff.toNat < 1024 ∧
    f.hSyncPulse.toNat < 1024 ∧ f.vSyncOff.toNat < 64 ∧ f.vSyncPulse.toNat < 64 :=
  ⟨⟨65535, 4095, 4095, 4095, 4095, 1023, 1023, 63, 63⟩, by decide⟩

theorem wit_DecodedTimingIsBounded : ∃ (c : Cfg) (b : Vector U8 128) (t : TimingSet) (f : DescriptorFields),
    f = unpackDescriptor (descriptorBytes c b) ∧ t = decodeTiming c b := ⟨Cfg.default, ea, _, _, rfl, rfl⟩

theorem wit_PipePollWaitsForTheActiveBit : ∃ (s : State) (vs : List U32) (last : U32) (rest : List U64), s.cfg.wf = true ∧
    s.hostIn = [] ∧ s.pc = .apConfPoll ∧ (∀ v ∈ vs, v &&& s.cfg.pipeconfActive = 0) ∧
    s.devIn = answers (vs ++ [last]) ++ rest ∧ last &&& s.cfg.pipeconfActive ≠ 0 ∧ vs.length = 1 :=
  ⟨{ applying .apConfPoll with devIn := answers [0x80000001, 0xC0000001] ++ [5] }, [0x80000001], 0xC0000001, [5],
    Cfg.default_wf, rfl, rfl, List.forall_mem_singleton.2 inactive_is, rfl, active_is, rfl⟩

theorem wit_PublishGrowsOnceAndElseEnds :
    (∀ (ans : PublishAnswer) (b : Bool), ∃ s : State, s.pc = .apPublish ∧ s.publishAnswer = ans ∧ s.grown = b) ∧
    (∀ g : GrowAnswer, ∃ s : State, s.pc = .apGrow ∧ s.growAnswer = g) :=
  ⟨fun ans b => ⟨{ applying .apPublish with publishIn := [ans], grown := b }, rfl, rfl, rfl⟩,
    fun g => ⟨{ applying .apGrow with growIn := [g] }, rfl, rfl⟩⟩

theorem wit_ApplyProgramsTheWholeModeInOrder : ∃ (s : State) (a0 a1 : U64) (c0 last : U32) (polls : List U32) (rest : List U64)
    (prest : List PublishAnswer), s.cfg.wf = true ∧ s.hostIn = [] ∧ s.busy = false ∧ s.timingValid = true ∧
    apertureOk a0 a1 = true ∧ (∀ v ∈ polls, v &&& s.cfg.pipeconfActive = 0) ∧ last &&& s.cfg.pipeconfActive ≠ 0 ∧
    s.devIn = answers ([c0] ++ polls ++ [last]) ++ rest ∧ s.publishIn = .ok :: prest :=
  ⟨{ decoded with devIn := answers [0x1, 0x80000001, 0xC0000001] ++ [5], publishIn := [.ok] }, 0x90100000, 0x90000000, 0x1,
    0xC0000001, [0x80000001], [5], [], Cfg.default_wf, rfl, rfl, rfl, by decide, List.forall_mem_singleton.2 inactive_is, active_is,
    rfl, rfl⟩

theorem wit_ModeQueryReportsTheModeTable : State.reset.cfg.wf = true ∧ State.reset.hostIn = [] ∧ State.reset.busy = false :=
  ⟨Cfg.default_wf, rfl, rfl⟩

theorem wit_TimingWordHalves : ∀ a b : U32, (a, b) = (1, 1) ∨ (a, b) = (65536, 65536) →
    1 ≤ a.toNat ∧ a.toNat ≤ 65536 ∧ 1 ≤ b.toNat ∧ b.toNat ≤ 65536 := by
  simp only [Prod.mk.injEq]; rintro a b (⟨rfl, rfl⟩ | ⟨rfl, rfl⟩) <;> decide

theorem wit_StrideRoundsUpToSixtyFour : ∀ h : U32, h = 0 ∨ h = 0x3FFFFFF0 → h.toNat * 4 + 63 < 2 ^ 32 := by
  rintro h (rfl | rfl) <;> decide

theorem wit_AuxWordFields : Cfg.default.wf = true := Cfg.default_wf

/-- A block that has started a search. -/
def searching : State := { inPhase .twSel with cmdOp := Op.acquire, pin := 2 }

/-- A state other than the one after reset that meets the invariant. -/
theorem searching_inv : searching.Inv where
  cfgWf := Cfg.default_wf
  busyIff := by decide
  runningCommand := by decide
  validBlock := fun h => absurd h (by decide)
  validTiming := fun h => absurd h (by decide)
  searchClears := by decide
  decoderReady := by decide
  sequencerReady := by decide
  modeOk := fun h => absurd h (by decide)
  publishOk := fun h => absurd h (by decide)
  growOnce := by decide
  twPins := by decide
  auxPins := by decide
  idx := trivial
  idxRange := by decide
  pollsRange := by decide
  portOperands := by decide

/-- Of `EveryStepKeepsTheInvariant`, `BlockWritesOnlyItsOwnWords` and `StepAddsAtMostOneEvent`. -/
theorem wit_EveryStepKeepsTheInvariant : ∃ (s t : State) (off v : U32), s.Inv ∧ step s = .next t ∧
    t.hist = s.hist ++ [.wr32 off v] ∧ s.pc ≠ .ptWr32 :=
  ⟨searching, phaseTwSel searching, 0xC5100, 2, searching_inv, rfl, rfl, by decide⟩

theorem wit_MachineAlwaysHasAStep : ∃ s : State, s.Inv ∧ s.hostMoveHasMeaning := ⟨searching, searching_inv, trivial⟩

/-- A complete attempt whose block has the magic header, on each transport. -/
def foundOn : Transport → State
  | .twoWire => { inPhase .twCheck with edid := ea, cmdOp := 0x10, idx := 128, pin := 3 }
  | .aux     => { inPhase .axCheck with edid := ea, cmdOp := 0x11, idx := 128, pin := 3 }

/-- For each clause a step that does change the register it speaks of. -/
theorem wit_RegistersChangeOnlyInTheirOwnPhase :
    (∃ s t : State, step s = .next t ∧ (∀ rest, s.hostIn ≠ .reset :: rest) ∧ t.edid ≠ s.edid) ∧
    (∃ s t : State, step s = .next t ∧ (∀ rest, s.hostIn ≠ .reset :: rest) ∧ t.timing ≠ s.timing ∧ t.tblHres ≠ s.tblHres ∧
      s.timingValid = false ∧ t.timingValid = true) ∧
    (∃ s t : State, step s = .next t ∧ (∀ rest, s.hostIn ≠ .reset :: rest) ∧ t.mode ≠ s.mode) ∧
    (∃ s t : State, step s = .next t ∧ (∀ rest, s.hostIn ≠ .reset :: rest) ∧ t.rdata ≠ s.rdata) ∧
    (∃ s t : State, step s = .next t ∧ (∀ rest, s.hostIn ≠ .reset :: rest) ∧ t.configured ≠ s.configured) ∧
    (∀ tr, ∃ s t : State, step s = .next t ∧ (∀ rest, s.hostIn ≠ .reset :: rest) ∧ s.edidValid = false ∧ t.edidValid = true ∧
      t.foundTransport = tr ∧ t.foundPin ≠ s.foundPin) :=
  ⟨⟨inPhaseWith .twRdWord 0x44332211, _, rfl, by simp [inPhaseWith, inPhase, State.reset], by decide +kernel⟩,
    ⟨{ inPhase .dcRun with edid := ea }, _, rfl, by simp [inPhase, State.reset], by decide +kernel, by decide +kernel, rfl, rfl⟩,
    ⟨applying .apPlCtl, _, rfl, by simp [applying, decoded, State.reset], by decide +kernel⟩,
    ⟨inPhaseWith .ptRd64 1, _, rfl, by simp [inPhaseWith, inPhase, State.reset], by decide⟩,
    ⟨{ applying .apPublish with publishIn := [.ok] }, _, rfl, by simp [applying, decoded, State.reset], by decide⟩,
    fun tr => match tr with
      | .twoWire => ⟨foundOn .twoWire, phaseTwCheck (foundOn .twoWire), rfl, by simp [foundOn, inPhase, State.reset], rfl,
          by decide +kernel, by decide +kernel, by decide +kernel⟩
      | .aux => ⟨foundOn .aux, phaseAxCheck (foundOn .aux), rfl, by simp [foundOn, inPhase, State.reset], rfl,
          by decide +kernel, by decide +kernel, by decide +kernel⟩⟩

theorem wit_LocalOutcomesAreNotSurfacedBySearches : ∃ s t : State, step s = .next t ∧ t.result ≠ s.result ∧
    8 ≤ t.result.code.toNat :=
  ⟨{ inPhase .twCheck with cmdOp := 0x10, twShort := true },
    phaseTwCheck { inPhase .twCheck with cmdOp := 0x10, twShort := true }, rfl, by decide, by decide⟩

theorem wit_HostReadsOnlyWhatHoldsAValue :
    (∃ s : State, s.busy = true) ∧ (∃ s : State, s.edidValid = false ∧ s.timingValid = false ∧ s.configured = false) ∧
    (∃ s : State, s.busy = false ∧ s.edidValid = true ∧ s.timingValid = true) ∧ (∃ s : State, s.busy = false ∧ s.configured = true) ∧
    (∃ (s : State) (r : HostReg) (rest : List HostEvent), s.cfg.wf = true ∧ s.hostIn = .read r :: rest) :=
  ⟨⟨inPhase .twSel, rfl⟩, ⟨State.reset, rfl, rfl, rfl⟩, ⟨decoded, rfl, rfl, rfl⟩, ⟨{ decoded with configured := true }, rfl, rfl⟩,
    ⟨{ State.reset with hostIn := [.read .busy] }, .busy, [], Cfg.default_wf, rfl⟩⟩

end Sys2Proof.Tests
end

section
/-! PROOFS. The family 00_scope.md: an ill-formed configuration has no step (R11), and every step keeps the invariant.

The invariant of a state is taken apart once and put together once for each of the three kinds of phase: a *brief* phase, which
belongs to no micro-sequence, a phase of a search on one transport, a phase of `APPLY`. What a kind of phase needs is a predicate
that does not speak of `pc`, so a step inside a micro-sequence hands it on unchanged and owes only what its own phase counts. -/

namespace Sys2Proof.Machine

variable {s t : State} {tr : Transport}

/-- Settles O14: the configuration is the first thing a step looks at. -/
theorem illFormedConfigurationIsRefused : Obligations.IllFormedConfigurationIsRefused :=
  fun _ => step_of_not_wf

/-! ## What holds in every phase -/

/-- The part of the invariant that does not speak of the phase. -/
structure State.Data (s : State) : Prop where
  cfgWf : s.cfg.wf = true
  validBlock : s.edidValid = true → magic s.edid = true ∧ s.foundOk
  validTiming : s.timingValid = true →
    s.edidValid = true ∧ s.timing = decodeTiming s.cfg s.edid ∧ s.tblHres = s.timing.hActive ∧ s.tblVres = s.timing.vActive
  modeOk : s.configured = true → s.mode.consistent
  idxRange : s.idx.toNat ≤ 128
  pollsBudget : s.polls.toNat ≤ 16384

theorem State.Inv.data (h : s.Inv) : s.Data := { h with pollsBudget := h.pollsRange.1 }

/-! ## The brief phases: `IDLE`, the `PORT_` phases, the ends of a search, `DC_RUN` and `MQ_RUN` -/

/-- The phases that belong to no attempt, to no change of pin and not to `APPLY`. -/
def Phase.brief (p : Phase) : Bool :=
  !(p.inTwoWire || p.inAux || p.inApply || p == .aqNextTw || p == .aqNextAux)

theorem Phase.brief_spec {p : Phase} (h : p.brief = true) :
    p.inTwoWire = false ∧ p.inAux = false ∧ p.inApply = false ∧ p ≠ .aqNextTw ∧ p ≠ .aqNextAux := by
  simpa [Phase.brief, and_assoc] using h

/-- Different phases where `brief` tells them apart. -/
theorem Phase.ne_of_brief {p q : Phase} (hp : p.brief = false) (hq : q.brief = true) : p ≠ q := by
  rintro rfl
  exact Bool.false_ne_true (hp.symm.trans hq)

/-- Outside the attempts `IDX` counts nothing. -/
theorem State.idxOk_outside_attempts (htw : s.pc.inTwoWire = false) (hax : s.pc.inAux = false) : s.idxOk := by
  unfold State.idxOk
  split <;> simp_all [Phase.inTwoWire, Phase.inAux]

theorem inv_of_brief (hd : t.Data) (hp : t.pc.brief = true) (hb : t.busy = true ↔ t.pc ≠ .idle)
    (hr : t.pc.runs t.cmdOp = true) (hfail : t.pc = .aqFail → t.edidValid = false ∧ t.timingValid = false)
    (hfound : t.pc = .dcRun ∨ t.pc = .aqDone → t.edidValid = true)
    (hport : (t.pc = .ptRd32 ∨ t.pc = .ptWr32 → highHalfZero t.arg0 = true ∧ offsetAligned 4 t.arg0 = true) ∧
      (t.pc = .ptRd64 → highHalfZero t.arg0 = true ∧ offsetAligned 8 t.arg0 = true)) : t.Inv := by
  obtain ⟨htw, hax, hap, hntw, hnax⟩ := Phase.brief_spec hp
  exact { hd with
    busyIff := hb
    runningCommand := hr
    searchClears := fun hs => hfail (by simpa [Phase.searching, htw, hax, hntw, hnax] using hs)
    decoderReady := hfound
    sequencerReady := by simp [hap]
    publishOk := by rintro (h | h) <;> simp [h, Phase.inApply] at hap
    growOnce := fun h => by simp [h, Phase.inApply] at hap
    twPins := by simp [htw, hntw]
    auxPins := by simp [hax, hnax]
    idx := State.idxOk_outside_attempts htw hax
    pollsRange := ⟨hd.pollsBudget, fun h => by simp [h, Phase.inAux] at hax⟩
    portOperands := hport }

theorem inv_of_idle (hd : t.Data) (hp : t.pc = .idle) (hb : t.busy = false) : t.Inv :=
  inv_of_brief hd (by rw [hp]; rfl) (by simp [hp, hb]) (by rw [hp]; rfl) (by simp [hp]) (by simp [hp]) (by simp [hp])

/-- Whatever a command ends with, the block is idle again and the data it holds is what it was. -/
theorem State.Data.finish_inv (hd : s.Data) (code : ResultCode) (info : U32) : (s.finish code info).Inv :=
  inv_of_idle { hd with } rfl rfl

/-! ## The phases of a search -/

/-- The command that makes one attempt on a transport. -/
def singleOp : Transport → U8
  | .twoWire => Op.twRead
  | .aux     => Op.auxRead

/-- The commands that search all pins. -/
def searchOp (op : U8) : Prop := op = Op.acquire ∨ op = Op.bringup

/-- The pins of a transport. -/
def pinOk : Transport → U8 → Bool
  | .twoWire => twPinOk
  | .aux     => auxPinOk

/-- The phases of an attempt on a transport. -/
def Phase.attempts : Transport → Phase → Bool
  | .twoWire => Phase.inTwoWire
  | .aux     => Phase.inAux

/-- The first phase of an attempt on a transport. -/
def firstPhase : Transport → Phase
  | .twoWire => .twSel
  | .aux     => .axBegin

/-- The phase that goes on to the next pin of a transport. -/
def nextPhase : Transport → Phase
  | .twoWire => .aqNextTw
  | .aux     => .aqNextAux

/-- What holds all through a search on a transport, whatever its phase. -/
structure State.SearchesOn (tr : Transport) (s : State) : Prop where
  cfgWf : s.cfg.wf = true
  modeOk : s.configured = true → s.mode.consistent
  busy : s.busy = true
  command : s.cmdOp = singleOp tr ∨ searchOp s.cmdOp
  noBlock : s.edidValid = false
  noTiming : s.timingValid = false
  pin : pinOk tr s.pin = true

/-- What the registers a search counts in hold. -/
structure State.CountsOk (s : State) : Prop where
  idx : s.idxOk
  idxRange : s.idx.toNat ≤ 128
  pollsRange : s.polls.toNat ≤ 16384 ∧ (s.pc = .axPoll → s.polls.toNat < 16384)

/-- A phase of a search is no brief phase and no phase of `APPLY`, and belongs to its own transport only. -/
theorem Phase.search_spec : ∀ (tr : Transport) (p : Phase), p.attempts tr = true ∨ p = nextPhase tr →
    p.searching = true ∧ p.brief = false ∧ p.inApply = false ∧
    (p.inTwoWire = true ∨ p = .aqNextTw → tr = .twoWire) ∧ (p.inAux = true ∨ p = .aqNextAux → tr = .aux) := by
  intro tr p
  cases tr <;> cases p <;> decide

theorem Phase.not_inTwoWire_of_inAux : ∀ {p : Phase}, p.inAux = true → p.inTwoWire = false := by
  intro p
  cases p <;> decide

theorem Phase.runs_of_attempts {p : Phase} {op : U8} (hp : p.attempts tr = true) :
    p.runs op = true ↔ op = singleOp tr ∨ searchOp op := by
  cases tr with
  | twoWire => simp [Phase.runs, show p.inTwoWire = true from hp, singleOp, searchOp, or_assoc]
  | aux =>
    have htw : p.inTwoWire = false := Phase.not_inTwoWire_of_inAux hp
    simp [Phase.runs, htw, show p.inAux = true from hp, singleOp, searchOp, or_assoc]

theorem inv_of_search (ha : t.SearchesOn tr) (hp : t.pc.attempts tr = true ∨ t.pc = nextPhase tr)
    (hr : t.pc.runs t.cmdOp = true) (hc : t.CountsOk) : t.Inv := by
  obtain ⟨-, hbrief, hap, htw, hax⟩ := Phase.search_spec tr t.pc hp
  have hne : ∀ q : Phase, q.brief = true → t.pc ≠ q := fun _ => Phase.ne_of_brief hbrief
  exact { ha, hc with
    busyIff := by simp [ha.busy, hne .idle rfl]
    runningCommand := hr
    validBlock := by simp [ha.noBlock]
    validTiming := by simp [ha.noTiming]
    searchClears := fun _ => ⟨ha.noBlock, ha.noTiming⟩
    decoderReady := by simp [hne .dcRun rfl, hne .aqDone rfl]
    sequencerReady := by simp [hap]
    publishOk := by rintro (h | h) <;> rw [h] at hap <;> contradiction
    growOnce := fun h => by rw [h] at hap; contradiction
    twPins := fun h => by obtain rfl := htw h; exact ha.pin
    auxPins := fun h => by obtain rfl := hax h; exact ha.pin
    portOperands := by simp [hne .ptRd32 rfl, hne .ptWr32 rfl, hne .ptRd64 rfl] }

theorem inv_of_attempt (ha : t.SearchesOn tr) (hp : t.pc.attempts tr = true) (hc : t.CountsOk) : t.Inv :=
  inv_of_search ha (.inl hp) ((Phase.runs_of_attempts hp).mpr ha.command) hc

theorem Phase.runs_nextPhase {op : U8} : (nextPhase tr).runs op = true ↔ searchOp op := by
  cases tr <;> simp [nextPhase, Phase.runs, Phase.inTwoWire, Phase.inAux, Phase.inApply, searchOp]

/-- In a phase of a search the invariant says what holds all through it. -/
theorem State.Inv.searchesOn (h : s.Inv) (hp : s.pc.attempts tr = true ∨ s.pc = nextPhase tr) : s.SearchesOn tr := by
  obtain ⟨hs, hbrief, -⟩ := Phase.search_spec tr s.pc hp
  obtain ⟨noBlock, noTiming⟩ := h.searchClears hs
  have command : s.cmdOp = singleOp tr ∨ searchOp s.cmdOp := by
    rcases hp with hp | hp
    · exact (Phase.runs_of_attempts hp).mp h.runningCommand
    · exact .inr (Phase.runs_nextPhase.mp (hp ▸ h.runningCommand))
  have pin : pinOk tr s.pin = true := by
    cases tr with
    | twoWire => exact h.twPins hp
    | aux => exact h.auxPins hp
  have busy : s.busy = true := h.busyIff.mpr (Phase.ne_of_brief hbrief rfl)
  exact { h with busy, command, noBlock, noTiming, pin }

/-! ## The end of an attempt -/

/-- A block is recorded as valid only with its header, and then where it was found is a pin of its transport. -/
theorem recordOutcome_data (h : s.Inv) (ha : s.SearchesOn tr) {o : AttemptOutcome} (hm : o = .found → magic s.edid = true) :
    (s.recordOutcome tr o).Data := by
  cases o with
  | found =>
    have hfound : (s.markFound tr).foundOk := by
      cases tr <;> exact ha.pin
    exact { h.data with validBlock := fun _ => ⟨hm rfl, hfound⟩, validTiming := by simp [State.recordOutcome, ha.noTiming] }
  | unavailable => exact h.data
  | busError => exact h.data
  | auxError => exact h.data
  | badHeader => exact h.data

/-- A search that goes on to its next pin. -/
theorem inv_of_next (ha : t.SearchesOn tr) (hp : t.pc = nextPhase tr) (hop : searchOp t.cmdOp) (hd : t.Data) : t.Inv := by
  have hidx : t.idxOk := State.idxOk_outside_attempts (by rw [hp]; cases tr <;> rfl) (by rw [hp]; cases tr <;> rfl)
  have hpoll : t.pc ≠ .axPoll := by
    rw [hp]
    cases tr <;> decide
  exact inv_of_search ha (.inr hp) (hp ▸ Phase.runs_nextPhase.mpr hop)
    ⟨hidx, hd.idxRange, hd.pollsBudget, fun h => absurd h hpoll⟩

theorem afterAttempt_of_ne_found {o : AttemptOutcome} (ho : o ≠ .found) : afterAttempt tr o = nextPhase tr := by
  cases tr <;> cases o <;> simp_all [afterAttempt, nextPhase]

theorem State.recordOutcome_of_ne_found {o : AttemptOutcome} (ho : o ≠ .found) : s.recordOutcome tr o = s := by
  cases o <;> simp_all [State.recordOutcome]

theorem attemptEnd_inv (h : s.Inv) (hp : s.pc.attempts tr = true) {o : AttemptOutcome}
    (hm : o = .found → magic s.edid = true) : (attemptEnd tr o s).Inv := by
  have ha : s.SearchesOn tr := h.searchesOn (.inl hp)
  have hd : (s.recordOutcome tr o).Data := recordOutcome_data h ha hm
  by_cases hop : s.cmdOp = Op.twRead ∨ s.cmdOp = Op.auxRead
  · rw [attemptEnd_single hop]
    exact hd.finish_inv _ _
  · rw [not_or] at hop
    rw [attemptEnd_search hop.1 hop.2]
    have hsearch : searchOp s.cmdOp := ha.command.resolve_left (by cases tr; exacts [hop.1, hop.2])
    by_cases ho : o = .found
    · subst ho
      exact inv_of_brief { hd with } rfl (by simp [State.recordOutcome, afterAttempt, ha.busy])
        (Phase.runs_nextPhase (tr := .aux).mpr hsearch) nofun (fun _ => rfl) ⟨nofun, nofun⟩
    · rw [State.recordOutcome_of_ne_found ho, afterAttempt_of_ne_found ho]
      exact inv_of_next { ha with } rfl hsearch { h.data with }

/-! ## What the invariant does not read -/

theorem State.Inv.read32 (h : s.Inv) (off : U32) : (s.read32 off).Inv := { h with }
theorem State.Inv.write32 (h : s.Inv) (off v : U32) : (s.write32 off v).Inv := { h with }
theorem State.Inv.publish (h : s.Inv) : s.publish.Inv := { h with }
theorem State.Inv.grow (h : s.Inv) : s.grow.Inv := { h with }
theorem State.Inv.reject (h : s.Inv) (code : ResultCode) (cw : U32) : (s.reject code cw).Inv := { h with }
theorem State.Inv.withHostIn (h : s.Inv) (moves : List HostEvent) : { s with hostIn := moves }.Inv := { h with }

/-- A move to another phase of the same attempt owes only what that phase counts. -/
theorem State.Inv.goto_attempt (h : s.Inv) (hp : s.pc.attempts tr = true) {q : Phase} (hq : q.attempts tr = true)
    (hpoll : q ≠ .axPoll) (hi : (s.goto q).idxOk) : (s.goto q).Inv :=
  inv_of_attempt { h.searchesOn (.inl hp) with } hq ⟨hi, h.idxRange, h.pollsRange.1, fun hq => absurd hq hpoll⟩

/-- What `IDX` counts in the phase the state is in. -/
theorem State.Inv.idxAt (h : s.Inv) {p : Phase} (hp : s.pc = p) : (s.goto p).idxOk := by
  subst hp
  exact h.idx

/-! ## The steps of a two-wire attempt -/

@[simp] theorem State.twPolled_pc (s : State) : s.twPolled.pc = s.pc := rfl

theorem phaseTwSel_inv (h : s.Inv) (hp : s.pc = .twSel) : (phaseTwSel s).Inv :=
  inv_of_attempt (tr := .twoWire) { h.searchesOn (.inl (by rw [hp]; rfl)) with } rfl
    ⟨⟨rfl, rfl⟩, Nat.zero_le _, h.pollsRange.1, nofun⟩

theorem phaseTwWaitIdle_inv (h : s.Inv) (hp : s.pc = .twWaitIdle) : (phaseTwWaitIdle s).Inv := by
  have hpoll : s.twPolled.Inv := h.read32 _
  have hs : s.twPolled.pc.attempts .twoWire = true := by rw [State.twPolled_pc, hp]; rfl
  have hi : s.idx = 0 ∧ s.twShort = false := h.idxAt hp
  unfold phaseTwWaitIdle
  split
  · exact attemptEnd_inv hpoll hs nofun
  · exact hpoll.goto_attempt hs rfl nofun hi
  · exact hpoll.goto_attempt hs rfl nofun hi

theorem phaseTwIdxData_inv (h : s.Inv) (hp : s.pc = .twIdxData) : (phaseTwIdxData s).Inv :=
  (h.write32 _ _).goto_attempt (tr := .twoWire) (by rw [State.write32_pc, hp]; rfl) rfl nofun (h.idxAt hp)

theorem phaseTwIdxCmd_inv (h : s.Inv) (hp : s.pc = .twIdxCmd) (hs : phaseTwIdxCmd s = .next t) : t.Inv := by
  obtain rfl := Host.Outcome.next.inj hs
  exact (h.write32 _ _).goto_attempt (tr := .twoWire) (by rw [State.write32_pc, hp]; rfl) rfl nofun (h.idxAt hp)

theorem phaseTwWaitIdx_inv (h : s.Inv) (hp : s.pc = .twWaitIdx) : (phaseTwWaitIdx s).Inv := by
  have hpoll : s.twPolled.Inv := h.read32 _
  have hs : s.twPolled.pc.attempts .twoWire = true := by rw [State.twPolled_pc, hp]; rfl
  have hi : s.idx = 0 ∧ s.twShort = false := h.idxAt hp
  unfold phaseTwWaitIdx
  split <;> exact hpoll.goto_attempt hs rfl nofun hi

theorem phaseTwRdCmd_inv (h : s.Inv) (hp : s.pc = .twRdCmd) (hs : phaseTwRdCmd s = .next t) : t.Inv := by
  obtain rfl := Host.Outcome.next.inj hs
  obtain ⟨hidx, hshort⟩ : s.idx = 0 ∧ s.twShort = false := h.idxAt hp
  exact (h.write32 _ _).goto_attempt (tr := .twoWire) (by rw [State.write32_pc, hp]; rfl) rfl nofun
    (by simp [State.idxOk, hidx, hshort])

theorem phaseTwWaitWord_inv (h : s.Inv) (hp : s.pc = .twWaitWord) : (phaseTwWaitWord s).Inv := by
  have hpoll : s.twPolled.Inv := h.read32 _
  have hs : s.twPolled.pc.attempts .twoWire = true := by rw [State.twPolled_pc, hp]; rfl
  have hi : s.idx.toNat % 4 = 0 ∧ s.idx.toNat ≤ 124 ∧ s.twShort = false := h.idxAt hp
  unfold phaseTwWaitWord
  split
  · obtain ⟨hmod, hle, -⟩ := hi
    exact inv_of_attempt (tr := .twoWire) { hpoll.searchesOn (.inl hs) with } rfl
      ⟨⟨hmod, .inl ⟨rfl, hle⟩⟩, h.idxRange, h.pollsRange.1, nofun⟩
  · exact hpoll.goto_attempt hs rfl nofun hi
  · exact hpoll.goto_attempt hs rfl nofun hi

theorem phaseTwRdWord_inv (h : s.Inv) (hp : s.pc = .twRdWord) (hs : phaseTwRdWord s = .next t) : t.Inv := by
  have ha : s.SearchesOn .twoWire := h.searchesOn (.inl (by rw [hp]; rfl))
  obtain ⟨hmod, hle, hshort⟩ : s.idx.toNat % 4 = 0 ∧ s.idx.toNat ≤ 124 ∧ s.twShort = false := h.idxAt hp
  have hadd : (s.idx + 4).toNat = s.idx.toNat + 4 := by bv_omega
  rw [phaseTwRdWord, if_pos (by omega)] at hs
  obtain rfl := Host.Outcome.next.inj hs
  have hmod' : (s.idx + 4).toNat % 4 = 0 := by omega
  have hrange : (s.idx + 4).toNat ≤ 128 := by omega
  by_cases hend : s.idx.toNat + 4 ≥ 128
  · have hlast : s.idx + 4 = 128 := by bv_omega
    rw [if_pos hend]
    exact inv_of_attempt { ha with } rfl ⟨⟨hmod', .inr ⟨hshort, hlast⟩⟩, hrange, h.pollsRange.1, nofun⟩
  · have hmore : (s.idx + 4).toNat ≤ 124 := by omega
    rw [if_neg hend]
    exact inv_of_attempt { ha with } rfl ⟨⟨hmod', hmore, hshort⟩, hrange, h.pollsRange.1, nofun⟩

theorem phaseTwWaitStop_inv (h : s.Inv) (hp : s.pc = .twWaitStop) : (phaseTwWaitStop s).Inv := by
  have hpoll : s.twPolled.Inv := h.read32 _
  have hs : s.twPolled.pc.attempts .twoWire = true := by rw [State.twPolled_pc, hp]; rfl
  have hi : (s.goto .twWaitStop).idxOk := h.idxAt hp
  unfold phaseTwWaitStop
  split <;> exact hpoll.goto_attempt hs rfl nofun hi

theorem twOutcome_found (h : twOutcome s = .found) : magic s.edid = true := by
  unfold twOutcome at h
  split_ifs at h with _ hm
  exact hm

theorem phaseTwCheck_inv (h : s.Inv) (hp : s.pc = .twCheck) : (phaseTwCheck s).Inv :=
  attemptEnd_inv h (by rw [hp]; rfl) twOutcome_found

/-! ## The steps of an auxiliary-channel attempt -/

/-- Between the start of a transaction and the fetch, `IDX` is the byte to fetch, and 0 before the first byte read. -/
def State.transactionCount (s : State) : Prop := s.idx.toNat < 128 ∧ (s.auxOp ≠ .readByte → s.idx = 0)

theorem phaseAxBegin_inv (h : s.Inv) (hp : s.pc = .axBegin) : (phaseAxBegin s).Inv :=
  inv_of_attempt (tr := .aux) { h.searchesOn (.inl (by rw [hp]; rfl)) with } rfl
    ⟨⟨Nat.zero_lt_succ _, fun _ => rfl⟩, Nat.zero_le _, h.pollsRange.1, nofun⟩

theorem loadHeader_inv (h : s.Inv) (hp : s.pc = .axLoadHdr) {op : AuxOp} {addr : U16} (hop : s.auxOp = op)
    (hs : loadHeader op addr s = .next t) : t.Inv := by
  subst hop
  obtain ⟨a, -, rfl⟩ := State.withAuxPin_next.mp hs
  have ha : s.SearchesOn .aux := h.searchesOn (.inl (by rw [hp]; rfl))
  obtain ⟨hlt, hzero⟩ : s.transactionCount := h.idxAt hp
  cases hop : s.auxOp <;>
    exact inv_of_attempt { ha with } rfl ⟨⟨hlt, hop ▸ hzero⟩, h.idxRange, h.pollsRange.1, nofun⟩

theorem phaseAxLoadHdr_inv (h : s.Inv) (hp : s.pc = .axLoadHdr) (hs : phaseAxLoadHdr s = .next t) : t.Inv := by
  unfold phaseAxLoadHdr at hs
  split at hs <;> exact loadHeader_inv h hp ‹_› hs

theorem phaseAxLoadData_inv (h : s.Inv) (hp : s.pc = .axLoadData) (hs : phaseAxLoadData s = .next t) : t.Inv := by
  obtain ⟨a, -, rfl⟩ := State.withAuxPin_next.mp hs
  exact (h.write32 _ _).goto_attempt (tr := .aux) (by rw [State.write32_pc, hp]; rfl) rfl nofun (h.idxAt hp)

theorem phaseAxStart_inv (h : s.Inv) (hp : s.pc = .axStart) (hs : phaseAxStart s = .next t) : t.Inv := by
  obtain ⟨a, -, rfl⟩ := State.withAuxPin_next.mp hs
  exact inv_of_attempt (tr := .aux) { h.searchesOn (.inl (by rw [hp]; rfl)) with } rfl
    ⟨h.idxAt hp, h.idxRange, Nat.zero_le _, fun _ => Nat.zero_lt_succ _⟩

/-- The budget ends the wait. -/
theorem auxPollDone_false {st : U32} {polls : U16} (h : auxPollDone st polls = false) : polls ≠ 16384 := by
  rintro rfl
  simp [auxPollDone] at h

theorem phaseAxPoll_inv (h : s.Inv) (hp : s.pc = .axPoll) (hs : phaseAxPoll s = .next t) : t.Inv := by
  obtain ⟨a, -, rfl⟩ := State.withAuxPin_next.mp hs
  have ha : s.SearchesOn .aux := h.searchesOn (.inl (by rw [hp]; rfl))
  have hi : s.transactionCount := h.idxAt hp
  have hbelow : s.polls.toNat < 16384 := h.pollsRange.2 hp
  have hadd : (s.polls + 1).toNat = s.polls.toNat + 1 := by bv_omega
  have hbudget : (s.polls + 1).toNat ≤ 16384 := by omega
  cases hdone : auxPollDone (s.read32Value a.ctl) (s.polls + 1) with
  | true =>
    simp only [hdone, if_true]
    exact inv_of_attempt { ha with } rfl ⟨hi, h.idxRange, hbudget, nofun⟩
  | false =>
    have hne : s.polls + 1 ≠ 16384 := auxPollDone_false hdone
    have hmore : (s.polls + 1).toNat < 16384 := by bv_omega
    simp only [hdone]
    exact inv_of_attempt { ha with } rfl ⟨hi, h.idxRange, hbudget, fun _ => hmore⟩

theorem phaseAxClear_inv (h : s.Inv) (hp : s.pc = .axClear) (hs : phaseAxClear s = .next t) : t.Inv := by
  obtain ⟨a, -, rfl⟩ := State.withAuxPin_next.mp hs
  exact (h.write32 _ _).goto_attempt (tr := .aux) (by rw [State.write32_pc, hp]; rfl) rfl nofun (h.idxAt hp)

theorem phaseAxAfter_inv (h : s.Inv) (hp : s.pc = .axAfter) : (phaseAxAfter s).Inv := by
  have hax : s.pc.attempts .aux = true := by rw [hp]; rfl
  have ha : s.SearchesOn .aux := h.searchesOn (.inl hax)
  obtain ⟨hlt, hzero⟩ : s.transactionCount := h.idxAt hp
  unfold phaseAxAfter
  split
  next hop =>
    exact inv_of_attempt { ha with } rfl ⟨⟨hlt, fun _ => hzero (by rw [hop]; nofun)⟩, h.idxRange, h.pollsRange.1, nofun⟩
  next hop =>
    split
    · exact attemptEnd_inv h hax nofun
    · exact inv_of_attempt { ha with } rfl ⟨⟨hlt, fun hr => absurd rfl hr⟩, h.idxRange, h.pollsRange.1, nofun⟩
  next hop => exact h.goto_attempt hax rfl nofun ⟨hlt, hop⟩

theorem phaseAxFetch_inv (h : s.Inv) (hp : s.pc = .axFetch) (hs : phaseAxFetch s = .next t) : t.Inv := by
  have ha : s.SearchesOn .aux := h.searchesOn (.inl (by rw [hp]; rfl))
  obtain ⟨hlt, hop⟩ : s.idx.toNat < 128 ∧ s.auxOp = .readByte := h.idxAt hp
  rw [phaseAxFetch, if_pos hlt] at hs
  obtain ⟨a, -, rfl⟩ := State.withAuxPin_next.mp hs
  have hadd : (s.idx + 1).toNat = s.idx.toNat + 1 := by bv_omega
  have hrange : (s.idx + 1).toNat ≤ 128 := by omega
  by_cases hend : s.idx + 1 = 128
  · simp only [if_pos hend]
    exact inv_of_attempt { ha with } rfl ⟨hend, hrange, h.pollsRange.1, nofun⟩
  · have hmore : (s.idx + 1).toNat < 128 := by bv_omega
    simp only [if_neg hend]
    exact inv_of_attempt { ha with } rfl ⟨⟨hmore, fun hr => absurd hop hr⟩, hrange, h.pollsRange.1, nofun⟩

theorem phaseAxCheck_inv (h : s.Inv) (hp : s.pc = .axCheck) : (phaseAxCheck s).Inv :=
  attemptEnd_inv h (by rw [hp]; rfl) fun ho => by
    by_contra hm
    simp [hm] at ho

/-! ## The steps of the Acquirer, the Decoder, `MODE_QUERY` and the `PORT_` commands -/

/-- An attempt starts with a pin of its transport and counts nothing yet. -/
theorem inv_of_firstPhase (ha : t.SearchesOn tr) (hp : t.pc = firstPhase tr) (hd : t.Data) : t.Inv := by
  have hattempts : t.pc.attempts tr = true := by
    rw [hp]
    cases tr <;> rfl
  have hidx : t.idxOk := by
    unfold State.idxOk
    rw [hp]
    cases tr <;> trivial
  have hpoll : t.pc ≠ .axPoll := by
    rw [hp]
    cases tr <;> decide
  exact inv_of_attempt ha hattempts ⟨hidx, hd.idxRange, hd.pollsBudget, fun h => absurd h hpoll⟩

theorem twPinOk_iff {pin : U8} : twPinOk pin = true ↔ 2 ≤ pin.toNat ∧ pin.toNat ≤ 6 := by
  simp [twPinOk, BitVec.le_def]

theorem auxPinOk_iff {pin : U8} : auxPinOk pin = true ↔ pin.toNat ≤ 5 := by
  simp [auxPinOk, BitVec.le_def]

theorem searchOp_of_nextPhase (h : s.Inv) (hp : s.pc = nextPhase tr) : searchOp s.cmdOp :=
  Phase.runs_nextPhase.mp (hp ▸ h.runningCommand)

theorem phaseAqNextTw_inv (h : s.Inv) (hp : s.pc = .aqNextTw) : (phaseAqNextTw s).Inv := by
  have ha : s.SearchesOn .twoWire := h.searchesOn (.inr hp)
  have hop : searchOp s.cmdOp := searchOp_of_nextPhase (tr := .twoWire) h hp
  unfold phaseAqNextTw
  split_ifs with hlast
  · have hpin : twPinOk (s.pin + 1) = true := by
      have := twPinOk_iff.mp ha.pin
      rw [twPinOk_iff]
      bv_omega
    exact inv_of_firstPhase (tr := .twoWire) { ha with pin := hpin } rfl { h.data with }
  · exact inv_of_firstPhase (tr := .aux) { ha with command := .inr hop, pin := rfl } rfl { h.data with }

theorem phaseAqNextAux_inv (h : s.Inv) (hp : s.pc = .aqNextAux) : (phaseAqNextAux s).Inv := by
  have ha : s.SearchesOn .aux := h.searchesOn (.inr hp)
  have hop : searchOp s.cmdOp := searchOp_of_nextPhase (tr := .aux) h hp
  unfold phaseAqNextAux
  split_ifs with hlast
  · have hpin : auxPinOk (s.pin + 1) = true := by
      rw [auxPinOk_iff]
      bv_omega
    exact inv_of_firstPhase (tr := .aux) { ha with pin := hpin } rfl { h.data with }
  · exact inv_of_brief { h.data with } rfl (by simp [ha.busy]) (Phase.runs_nextPhase (tr := .aux).mpr hop)
      (fun _ => ⟨ha.noBlock, ha.noTiming⟩) nofun ⟨nofun, nofun⟩

theorem phaseAqDone_inv (h : s.Inv) (hp : s.pc = .aqDone) : (phaseAqDone s).Inv := by
  have hbusy : s.busy = true := h.busyIff.mpr (by rw [hp]; decide)
  unfold phaseAqDone
  split_ifs with hop
  · have hruns : Phase.dcRun.runs s.cmdOp = true := by rw [hop]; rfl
    exact inv_of_brief { h.data with } rfl (by simp [hbusy]) hruns nofun (fun _ => h.decoderReady (.inr hp)) ⟨nofun, nofun⟩
  · exact h.data.finish_inv _ _

/-- The timing set written is the one of the block held, which is valid. -/
theorem phaseDcRun_inv (h : s.Inv) (hp : s.pc = .dcRun) : (phaseDcRun s).Inv := by
  have hd : s.writeTiming.Data :=
    { h.data with validTiming := fun _ => ⟨h.decoderReady (.inl hp), rfl, rfl, rfl⟩ }
  exact hd.finish_inv _ _

/-- A `PORT_` phase changes only the history, `RDATA` and the result. -/
theorem phasePtRd32_inv (h : s.Inv) : (phasePtRd32 s).Inv :=
  State.Data.finish_inv (s := { s.read32 _ with rdata := _ }) { h.data with } _ _

theorem phasePtWr32_inv (h : s.Inv) : (phasePtWr32 s).Inv :=
  (h.write32 _ _).data.finish_inv _ _

theorem phasePtRd64_inv (h : s.Inv) : (phasePtRd64 s).Inv :=
  State.Data.finish_inv (s := { s.read64 _ with rdata := _ }) { h.data with } _ _

/-! ## The steps of `APPLY` -/

/-- What holds all through `APPLY` (R211). -/
structure State.Programs (s : State) : Prop where
  busy : s.busy = true
  command : s.cmdOp = Op.apply
  timing : s.timingValid = true
  aperture : apertureOk s.arg0 s.arg1 = true

/-- A phase of `APPLY` is no brief phase and no phase of a search. -/
theorem Phase.inApply_spec : ∀ {p : Phase}, p.inApply = true →
    p.searching = false ∧ p.brief = false ∧ p.inTwoWire = false ∧ p.inAux = false ∧ p ≠ .aqNextTw ∧ p ≠ .aqNextAux := by
  intro p
  cases p <;> decide

theorem Phase.runs_of_inApply {p : Phase} {op : U8} (hp : p.inApply = true) : p.runs op = true ↔ op = Op.apply := by
  obtain ⟨-, -, htw, hax, -⟩ := Phase.inApply_spec hp
  simp [Phase.runs, htw, hax, hp]

theorem State.Inv.programs (h : s.Inv) (hp : s.pc.inApply = true) : s.Programs :=
  ⟨h.busyIff.mpr (Phase.ne_of_brief (Phase.inApply_spec hp).2.1 rfl), (Phase.runs_of_inApply hp).mp h.runningCommand,
    (h.sequencerReady hp).1, (h.sequencerReady hp).2⟩

theorem inv_of_apply (hd : t.Data) (ha : t.Programs) (hp : t.pc.inApply = true)
    (hpub : t.pc = .apPublish ∨ t.pc = .apGrow → t.mode = modeOf t.timing t.arg0) (hgrow : t.pc = .apGrow → t.grown = false) :
    t.Inv := by
  obtain ⟨hs, hbrief, htw, hax, hntw, hnax⟩ := Phase.inApply_spec hp
  have hne : ∀ q : Phase, q.brief = true → t.pc ≠ q := fun _ => Phase.ne_of_brief hbrief
  exact { hd with
    busyIff := by simp [ha.busy, hne .idle rfl]
    runningCommand := (Phase.runs_of_inApply hp).mpr ha.command
    searchClears := by simp [hs]
    decoderReady := by simp [hne .dcRun rfl, hne .aqDone rfl]
    sequencerReady := fun _ => ⟨ha.timing, ha.aperture⟩
    publishOk := hpub
    growOnce := hgrow
    twPins := by simp [htw, hntw]
    auxPins := by simp [hax, hnax]
    idx := State.idxOk_outside_attempts htw hax
    pollsRange := ⟨hd.pollsBudget, fun h => by rw [h] at hax; contradiction⟩
    portOperands := by simp [hne .ptRd32 rfl, hne .ptWr32 rfl, hne .ptRd64 rfl] }

/-- A move to a phase of `APPLY` before the publish exchange. -/
theorem State.Inv.goto_apply (h : s.Inv) (hp : s.pc.inApply = true) {q : Phase} (hq : q.inApply = true)
    (hpub : q ≠ .apPublish) (hgrow : q ≠ .apGrow) : (s.goto q).Inv :=
  inv_of_apply { h.data with } { h.programs hp with } hq (fun he => absurd he (not_or.mpr ⟨hpub, hgrow⟩))
    fun he => absurd he hgrow

/-- A phase of `APPLY` that is one write and a move. -/
theorem writePhase_inv {off v : U32} {q : Phase} (hs : (.next (writePhase s off v q) : Outcome) = .next t) (h : s.Inv)
    (hp : s.pc.inApply = true) (hq : q.inApply = true) (hpub : q ≠ .apPublish) (hgrow : q ≠ .apGrow) : t.Inv :=
  Host.Outcome.next.inj hs ▸ (h.write32 off v).goto_apply hp hq hpub hgrow

theorem phaseApConfRd_inv (h : s.Inv) (hp : s.pc = .apConfRd) : (phaseApConfRd s).Inv :=
  inv_of_apply { h.data with } { h.programs (by rw [hp]; rfl) with } rfl nofun nofun

theorem phaseApConfPoll_inv (h : s.Inv) (hp : s.pc = .apConfPoll) : (phaseApConfPoll s).Inv := by
  have hs : (s.read32 s.cfg.pipeconfOff).pc.inApply = true := by rw [State.read32_pc, hp]; rfl
  unfold phaseApConfPoll
  split <;> exact (h.read32 _).goto_apply hs rfl nofun nofun

theorem modeOf_consistent (tm : TimingSet) (fb : U64) : (modeOf tm fb).consistent := ⟨rfl, rfl⟩

theorem phaseApPlCtl_inv (h : s.Inv) (hp : s.pc = .apPlCtl) : (phaseApPlCtl s).Inv :=
  inv_of_apply { h.data with modeOk := fun _ => modeOf_consistent _ _ } { h.programs (by rw [hp]; rfl) with } rfl
    (fun _ => rfl) nofun

theorem phaseApPublish_inv (h : s.Inv) (hp : s.pc = .apPublish) : (phaseApPublish s).Inv := by
  have hmode : s.mode = modeOf s.timing s.arg0 := h.publishOk (.inl hp)
  unfold phaseApPublish
  split
  · exact State.Data.finish_inv (s := { s.publish with configured := true })
      { h.data with modeOk := fun _ => by simpa [hmode] using modeOf_consistent s.timing s.arg0 } _ _
  · split_ifs with hgrown
    · exact h.publish.data.finish_inv _ _
    · exact inv_of_apply { h.data with } { h.programs (by rw [hp]; rfl) with } rfl (fun _ => hmode)
        fun _ => by simpa using hgrown
  · exact h.publish.data.finish_inv _ _

theorem phaseApGrow_inv (h : s.Inv) (hp : s.pc = .apGrow) : (phaseApGrow s).Inv := by
  unfold phaseApGrow
  split
  · exact inv_of_apply { h.data with } { h.programs (by rw [hp]; rfl) with } rfl (fun _ => h.publishOk (.inr hp)) nofun
  · exact State.Data.finish_inv (s := { s.grow with grown := true }) { h.data with } _ _

/-! ## The step of the block -/

theorem State.Inv.of_next {u : State} (hu : u.Inv) (hs : (.next u : Outcome) = .next t) : t.Inv :=
  Host.Outcome.next.inj hs ▸ hu

/-- The block's own step keeps the invariant, phase by phase. -/
theorem blockStep_inv (h : s.Inv) (hs : blockStep s = .next t) : t.Inv := by
  cases hp : s.pc <;> rw [blockStep, hp] at hs
  case idle => exact h.of_next hs
  case ptRd32 => exact (phasePtRd32_inv h).of_next hs
  case ptWr32 => exact (phasePtWr32_inv h).of_next hs
  case ptRd64 => exact (phasePtRd64_inv h).of_next hs
  case twSel => exact (phaseTwSel_inv h hp).of_next hs
  case twWaitIdle => exact (phaseTwWaitIdle_inv h hp).of_next hs
  case twIdxData => exact (phaseTwIdxData_inv h hp).of_next hs
  case twIdxCmd => exact phaseTwIdxCmd_inv h hp hs
  case twWaitIdx => exact (phaseTwWaitIdx_inv h hp).of_next hs
  case twRdCmd => exact phaseTwRdCmd_inv h hp hs
  case twWaitWord => exact (phaseTwWaitWord_inv h hp).of_next hs
  case twRdWord => exact phaseTwRdWord_inv h hp hs
  case twWaitStop => exact (phaseTwWaitStop_inv h hp).of_next hs
  case twCheck => exact (phaseTwCheck_inv h hp).of_next hs
  case axBegin => exact (phaseAxBegin_inv h hp).of_next hs
  case axLoadHdr => exact phaseAxLoadHdr_inv h hp hs
  case axLoadData => exact phaseAxLoadData_inv h hp hs
  case axStart => exact phaseAxStart_inv h hp hs
  case axPoll => exact phaseAxPoll_inv h hp hs
  case axClear => exact phaseAxClear_inv h hp hs
  case axAfter => exact (phaseAxAfter_inv h hp).of_next hs
  case axFetch => exact phaseAxFetch_inv h hp hs
  case axCheck => exact (phaseAxCheck_inv h hp).of_next hs
  case aqNextTw => exact (phaseAqNextTw_inv h hp).of_next hs
  case aqNextAux => exact (phaseAqNextAux_inv h hp).of_next hs
  case aqFail => exact (h.data.finish_inv _ _).of_next hs
  case aqDone => exact (phaseAqDone_inv h hp).of_next hs
  case dcRun => exact (phaseDcRun_inv h hp).of_next hs
  case apShift => exact writePhase_inv hs h (by rw [hp]; rfl) rfl nofun nofun
  case apHtotal => exact writePhase_inv hs h (by rw [hp]; rfl) rfl nofun nofun
  case apHblank => exact writePhase_inv hs h (by rw [hp]; rfl) rfl nofun nofun
  case apHsync => exact writePhase_inv hs h (by rw [hp]; rfl) rfl nofun nofun
  case apVtotal => exact writePhase_inv hs h (by rw [hp]; rfl) rfl nofun nofun
  case apVblank => exact writePhase_inv hs h (by rw [hp]; rfl) rfl nofun nofun
  case apVsync => exact writePhase_inv hs h (by rw [hp]; rfl) rfl nofun nofun
  case apConfRd => exact (phaseApConfRd_inv h hp).of_next hs
  case apConfWr => exact writePhase_inv hs h (by rw [hp]; rfl) rfl nofun nofun
  case apConfPoll => exact (phaseApConfPoll_inv h hp).of_next hs
  case apPlOffset => exact writePhase_inv hs h (by rw [hp]; rfl) rfl nofun nofun
  case apPlStride => exact writePhase_inv hs h (by rw [hp]; rfl) rfl nofun nofun
  case apPlSize => exact writePhase_inv hs h (by rw [hp]; rfl) rfl nofun nofun
  case apPlSurf => exact writePhase_inv hs h (by rw [hp]; rfl) rfl nofun nofun
  case apPlCtl => exact (phaseApPlCtl_inv h hp).of_next hs
  case apPublish => exact (phaseApPublish_inv h hp).of_next hs
  case apGrow => exact (phaseApGrow_inv h hp).of_next hs
  case mqRun => exact (h.data.finish_inv _ _).of_next hs

/-! ## Command issue -/

theorem unlessBusy_inv {k : Outcome} (h : s.Inv) (hs : s.unlessBusy k = .next t) (hk : k = .next t → t.Inv) : t.Inv := by
  cases hb : s.busy with
  | false => exact hk (by rwa [State.unlessBusy_of_free hb] at hs)
  | true => exact h.of_next (by rwa [State.unlessBusy_of_busy hb] at hs)

/-- A `PORT_` command is accepted with aligned 32-bit operands only (R120). -/
theorem issuePort_inv {op : U8} {ok al : Bool} {a0 a1 : U64} {p : Phase} (h : s.Inv)
    (hs : issuePort op ok al a0 a1 p s = .next t) (hacc : ok = true → al = true → (s.accept op 0 a0 a1 p).Inv) : t.Inv := by
  obtain ⟨-, rfl⟩ | ⟨-, -, rfl⟩ | ⟨-, hok, hal, rfl⟩ := issuePort_next hs
  · exact h
  · exact h.reject _ _
  · exact hacc hok hal

theorem execPortRd32_inv {a0 a1 : U64} (h : s.Inv) (hs : execPortRd32 a0 a1 s = .next t) : t.Inv :=
  issuePort_inv h hs fun hok hal =>
    inv_of_brief { h.data with } rfl (by simp) rfl nofun nofun ⟨fun _ => ⟨hok, hal⟩, nofun⟩

theorem execPortWr32_inv {a0 a1 : U64} (h : s.Inv) (hs : execPortWr32 a0 a1 s = .next t) : t.Inv :=
  issuePort_inv h hs fun hok hal =>
    inv_of_brief { h.data with } rfl (by simp) rfl nofun nofun ⟨fun _ => ⟨(Bool.and_eq_true_iff.mp hok).1, hal⟩, nofun⟩

theorem execPortRd64_inv {a0 a1 : U64} (h : s.Inv) (hs : execPortRd64 a0 a1 s = .next t) : t.Inv :=
  issuePort_inv h hs fun hok hal =>
    inv_of_brief { h.data with } rfl (by simp) rfl nofun nofun ⟨nofun, fun _ => ⟨hok, hal⟩⟩

/-- An accepted search command starts an attempt with nothing valid (R26). -/
theorem startSearch_inv (h : s.Inv) {op cmdPin pin : U8} (a0 a1 : U64) (hop : op = singleOp tr ∨ searchOp op)
    (hpin : pinOk tr pin = true) : { (s.accept op cmdPin a0 a1 (firstPhase tr)).clearValidity with pin := pin }.Inv :=
  inv_of_firstPhase (tr := tr)
    { cfgWf := h.cfgWf, modeOk := h.modeOk, busy := rfl, command := hop, noBlock := rfl, noTiming := rfl, pin := hpin } rfl
    { h.data with validBlock := nofun, validTiming := nofun }

theorem execTwRead_inv {pin : U8} {a0 a1 : U64} (h : s.Inv) (hs : execTwRead pin a0 a1 s = .next t) : t.Inv := by
  refine unlessBusy_inv h hs fun hk => ?_
  split_ifs at hk with hpin
  · exact (startSearch_inv (tr := .twoWire) h a0 a1 (.inl rfl) hpin).of_next hk
  · exact (h.reject _ _).of_next hk

theorem execAuxRead_inv {pin : U8} {a0 a1 : U64} (h : s.Inv) (hs : execAuxRead pin a0 a1 s = .next t) : t.Inv := by
  refine unlessBusy_inv h hs fun hk => ?_
  split_ifs at hk with hpin
  · exact (startSearch_inv (tr := .aux) h a0 a1 (.inl rfl) hpin).of_next hk
  · exact (h.reject _ _).of_next hk

theorem execAcquire_inv {a0 a1 : U64} (h : s.Inv) (hs : execAcquire a0 a1 s = .next t) : t.Inv :=
  unlessBusy_inv h hs (startSearch_inv (tr := .twoWire) h a0 a1 (.inr (.inl rfl)) rfl).of_next

theorem execBringup_inv {a0 a1 : U64} (h : s.Inv) (hs : execBringup a0 a1 s = .next t) : t.Inv :=
  unlessBusy_inv h hs (startSearch_inv (tr := .twoWire) h a0 a1 (.inr (.inr rfl)) rfl).of_next

theorem execDecode_inv {a0 a1 : U64} (h : s.Inv) (hs : execDecode a0 a1 s = .next t) : t.Inv := by
  refine unlessBusy_inv h hs fun hk => ?_
  split_ifs at hk with hv
  · exact (inv_of_brief (t := (s.accept Op.decode 0 a0 a1 .dcRun).clearTimingValid) { h.data with validTiming := nofun } rfl
      (by simp) rfl nofun (fun _ => hv) ⟨nofun, nofun⟩).of_next hk
  · exact (h.reject _ _).of_next hk

theorem execApply_inv {a0 a1 : U64} (h : s.Inv) (hs : execApply a0 a1 s = .next t) : t.Inv := by
  refine unlessBusy_inv h hs fun hk => ?_
  split_ifs at hk with htiming haperture
  · exact (inv_of_apply (t := { s.accept Op.apply 0 a0 a1 .apShift with grown := false }) { h.data with }
      ⟨rfl, rfl, htiming, haperture⟩ rfl nofun nofun).of_next hk
  · exact (h.reject _ _).of_next hk

theorem execModeQuery_inv {a0 a1 : U64} (h : s.Inv) (hs : execModeQuery a0 a1 s = .next t) : t.Inv :=
  unlessBusy_inv h hs (inv_of_brief (t := s.accept Op.modeQuery 0 a0 a1 .mqRun) { h.data with } rfl (by simp) rfl nofun nofun
    ⟨nofun, nofun⟩).of_next

theorem execNop_inv (h : s.Inv) (hs : execNop s = .next t) : t.Inv :=
  unlessBusy_inv h hs (State.Inv.of_next { h with })

/-- Every command's issue keeps the invariant. -/
theorem commandIssue_inv {w : CmdWords} (h : s.Inv) (hs : commandIssue w s = .next t) : t.Inv := by
  obtain ⟨i, hd, hx⟩ | ⟨e, -, ⟨-, rfl⟩ | ⟨-, rfl⟩⟩ := commandIssue_next hs
  · obtain ⟨-, hi, -⟩ := decodeCommand_ok hd
    obtain rfl | rfl | rfl | rfl | rfl | rfl | rfl | rfl | rfl | rfl | rfl := instrOfOp_some hi
    · exact execNop_inv h hx
    · exact execPortRd32_inv h hx
    · exact execPortWr32_inv h hx
    · exact execPortRd64_inv h hx
    · exact execTwRead_inv h hx
    · exact execAuxRead_inv h hx
    · exact execAcquire_inv h hx
    · exact execBringup_inv h hx
    · exact execDecode_inv h hx
    · exact execApply_inv h hx
    · exact execModeQuery_inv h hx
  · exact h
  · exact h.reject _ _

/-! ## The step of the machine -/

theorem hostReset_inv (h : s.Inv) : s.hostReset.Inv :=
  inv_of_idle { cfgWf := h.cfgWf, validBlock := nofun, validTiming := nofun, modeOk := nofun, idxRange := Nat.zero_le _,
                pollsBudget := Nat.zero_le _ } rfl rfl

/-- Settles O53, by the cases of what a step can do. -/
theorem everyStepKeepsTheInvariant : Obligations.EveryStepKeepsTheInvariant := by
  intro s t h hs
  obtain ⟨-, hcases⟩ := step_next hs
  obtain ⟨-, hb⟩ | ⟨rest, -, hb⟩ | ⟨rest, -, -, hb⟩ | ⟨rest, -, -, rfl⟩ | ⟨cw, a0, a1, rest, -, hc⟩ | ⟨rest, -, rfl⟩ |
    ⟨reg, rest, -, -, rfl⟩ := hcases
  · exact blockStep_inv h hb
  · exact blockStep_inv (h.withHostIn rest) hb
  · exact blockStep_inv h hb
  · exact h.withHostIn rest
  · exact commandIssue_inv (h.withHostIn rest) hc
  · exact hostReset_inv (h.withHostIn rest)
  · exact h.withHostIn rest

end Sys2Proof.Machine
end

section
/-! PROOFS. The family 10_state.md: what reset leaves (R53), what a step does (R20, R23), what it does to `HIST` (R66) and to each
data register (R26 to R31), that the machine is never stuck, and what the host reads (R25 to R31).

A step leaves the data registers or writes them in one of eight ways, each tied to its phase or to command issue: the relation
`DataChange`. One case split over the phases gives that relation and the one event a step adds at most; the statements follow. -/

namespace Sys2Proof.Machine

variable {s t : State} {tr : Transport} {cw : U32} {a0 a1 : U64} {rest : List HostEvent}

/-! ## The host's moves -/

theorem step_pass (h : s.cfg.wf = true) (hh : s.hostIn = .pass :: rest) : step s = blockStep { s with hostIn := rest } := by
  simp [step_of_wf h, hostOrBlockStep, hh]

theorem step_wait_busy (h : s.cfg.wf = true) (hh : s.hostIn = .wait :: rest) (hb : s.busy = true) : step s = blockStep s := by
  simp [step_of_wf h, hostOrBlockStep, hh, hb]

theorem step_wait_free (h : s.cfg.wf = true) (hh : s.hostIn = .wait :: rest) (hb : s.busy = false) :
    step s = .next { s with hostIn := rest } := by
  simp [step_of_wf h, hostOrBlockStep, hh, hb]

theorem step_issue (h : s.cfg.wf = true) (hh : s.hostIn = .issue cw a0 a1 :: rest) :
    step s = commandIssue ⟨cw, a0, a1⟩ { s with hostIn := rest } := by
  simp [step_of_wf h, hostOrBlockStep, hh]

theorem step_reset (h : s.cfg.wf = true) (hh : s.hostIn = .reset :: rest) :
    step s = .next { s with hostIn := rest }.hostReset := by
  simp [step_of_wf h, hostOrBlockStep, hh]

theorem commandIssue_of_ok {w : CmdWords} {i : Instr} (hd : decodeCommand w = .ok i) : commandIssue w s = exec i s := by
  simp [commandIssue, hd]

theorem commandIssue_of_rejected {w : CmdWords} {e : DecodeError} (hd : decodeCommand w = .rejected e) :
    commandIssue w s = s.unlessBusy (.next (s.reject .illegalCmd w.cw)) := by
  simp [commandIssue, hd]

/-- Settles O7: the host's moves first, then the phases that run an auxiliary operation or a two-wire cycle. -/
theorem stepRunsTheDecodedInstruction : Obligations.StepRunsTheDecodedInstruction := by
  refine ⟨?issue, ?none, ?pass, ?wait, ?header, ?index, ?read⟩
  case issue =>
    intro s cw a0 a1 rest i hwf hh hd
    rw [step_issue hwf hh, commandIssue_of_ok hd]
  case none => exact fun s => step_block
  case pass => exact fun s rest => step_pass
  case wait => exact fun s rest hwf hh => ⟨step_wait_busy hwf hh, step_wait_free hwf hh⟩
  case header =>
    intro s hp
    rw [blockStep, hp]
    rfl
  case index =>
    intro s hp
    rw [blockStep, hp]
    rfl
  case read =>
    intro s hp
    rw [blockStep, hp]
    rfl

/-! ## What the host reads -/

theorem hostRead_withHostIn (r : HostReg) : hostRead { s with hostIn := rest } r = hostRead s r := by
  cases r <;> rfl

theorem hostRead_of_readable {r : HostReg} (h : readable s r = true) : hostRead s r = registerValue s r :=
  if_pos h

theorem hostRead_of_not_readable {r : HostReg} (h : readable s r = false) : hostRead s r = none := by
  simp [hostRead, h]

/-- A register the host may read now holds a value. -/
theorem hostRead_ne_none {r : HostReg} : hostRead s r ≠ none ↔ readable s r = true := by
  cases hr : readable s r with
  | false => simp [hostRead_of_not_readable hr]
  | true =>
    rw [hostRead_of_readable hr]
    cases r with
    | hidden x => nomatch hr
    | _ => simp [registerValue]

theorem readable_of_busy {r : HostReg} (hb : s.busy = true) : readable s r = true ↔ r = .busy := by
  cases r <;> simp [readable, hb]

theorem readStep_eq (r : HostReg) :
    readStep r s = if hostRead s r = none then .refused .unreadableRegister else .next s := by
  unfold readStep
  cases hostRead s r <;> rfl

theorem step_read {r : HostReg} (h : s.cfg.wf = true) (hh : s.hostIn = .read r :: rest) :
    step s = if hostRead s r = none then .refused .unreadableRegister else .next { s with hostIn := rest } := by
  rw [step_of_wf h, hostOrBlockStep, hh]
  exact (readStep_eq r).trans (by rw [hostRead_withHostIn])

theorem Transport.code_zext (tr : Transport) : zext 64 tr.code = if tr = .aux then 1 else 0 := by
  cases tr <;> rfl

/-- Settles O59: what is readable register by register, the value of each, and the step of a read. -/
theorem hostReadsOnlyWhatHoldsAValue : Obligations.HostReadsOnlyWhatHoldsAValue := by
  intro s r
  refine ⟨?busy, ?noBlock, ?noTiming, ?noMode, ?hidden, rfl, ?free, ?block, ?timing, ?mode, ?step⟩
  case busy => exact fun hb => hostRead_ne_none.trans (readable_of_busy hb)
  case noBlock =>
    intro hv
    exact ⟨by simp [hostRead, readable, hv], by simp [hostRead, readable, hv], fun i => by simp [hostRead, readable, hv]⟩
  case noTiming => exact fun hv x => by simp [hostRead, readable, hv]
  case noMode => exact fun hv x => by simp [hostRead, readable, hv]
  case hidden => exact fun x => rfl
  case free =>
    intro hb
    simp [hostRead, readable, registerValue, flagWord, hb]
  case block =>
    intro hb hv
    simpa [hostRead, readable, registerValue, hb, hv] using Transport.code_zext s.foundTransport
  case timing =>
    intro hb hv
    simp [hostRead, readable, registerValue, timingReg, hb, hv]
  case mode =>
    intro hb hv
    simp [hostRead, readable, registerValue, modeReg, hb, hv]
  case step => exact fun rest => step_read

/-! ## Reset -/

/-- Settles O1: after reset no flag is set, so the host reads `BUSY`, the result registers, `RDATA` and the flags only. -/
theorem resetLeavesTheSpecifiedValues : Obligations.ResetLeavesTheSpecifiedValues := by
  refine ⟨rfl, rfl, rfl, rfl, rfl, rfl, rfl, rfl, rfl, rfl, rfl, rfl, rfl, rfl, rfl, fun r hr => ?_⟩
  have hreadable : readable State.reset r = true := hostRead_ne_none.mp hr
  cases r <;> simp_all [readable]

/-- Settles O52: an idle block whose flags are 0. -/
theorem resetMeetsTheInvariant : Obligations.ResetMeetsTheInvariant :=
  inv_of_idle { cfgWf := Cfg.default_wf, validBlock := nofun, validTiming := nofun, modeOk := nofun, idxRange := Nat.zero_le _,
                pollsBudget := Nat.zero_le _ } rfl rfl

/-! ## The machine is never stuck -/

/-- Under the invariant every phase has a next state: `PIN` names a pin, and `IDX` a byte of the buffer. -/
theorem blockStep_answers (h : s.Inv) : ∃ t, blockStep s = .next t := by
  have auxAnswers (hax : s.pc.inAux = true) (k : AuxOffsets → State) : ∃ t, s.withAuxPin k = .next t := by
    obtain ⟨a, ha⟩ := auxPin?_of_ok (c := s.cfg) (h.auxPins (.inl hax))
    exact ⟨k a, State.withAuxPin_next.mpr ⟨a, ha, rfl⟩⟩
  cases hp : s.pc <;> rw [blockStep, hp]
  case twRdWord =>
    obtain ⟨-, hle, -⟩ : s.idx.toNat % 4 = 0 ∧ s.idx.toNat ≤ 124 ∧ s.twShort = false := h.idxAt hp
    exact ⟨_, if_pos (by omega)⟩
  case axLoadHdr =>
    simp only [phaseAxLoadHdr]
    split <;> exact auxAnswers (by rw [hp]; rfl) _
  case axLoadData | axStart | axPoll | axClear => exact auxAnswers (by rw [hp]; rfl) _
  case axFetch =>
    obtain ⟨hlt, -⟩ : s.idx.toNat < 128 ∧ s.auxOp = .readByte := h.idxAt hp
    simp only [phaseAxFetch, if_pos hlt]
    exact auxAnswers (by rw [hp]; rfl) _
  all_goals exact ⟨_, rfl⟩

theorem unlessBusy_answers {k : Outcome} (hk : s.busy = false → ∃ t, k = .next t) : ∃ t, s.unlessBusy k = .next t := by
  cases hb : s.busy with
  | false => rw [State.unlessBusy_of_free hb]; exact hk hb
  | true => exact ⟨s, State.unlessBusy_of_busy hb k⟩

/-- A free block refuses a `PORT_` command only where its operands are 32-bit and its offset is misaligned. -/
theorem issuePort_answers {op : U8} {ok al : Bool} {p : Phase} (h : s.busy = false → ok = true → al = true) :
    ∃ t, issuePort op ok al a0 a1 p s = .next t := by
  refine unlessBusy_answers fun hb => ?_
  cases hok : ok with
  | false => exact ⟨_, rfl⟩
  | true => exact ⟨_, if_pos (h hb hok)⟩

theorem execApply_answers (h : s.busy = false → s.timingValid = true → apertureOk a0 a1 = true) :
    ∃ t, execApply a0 a1 s = .next t := by
  refine unlessBusy_answers fun hb => ?_
  cases hv : s.timingValid with
  | false => exact ⟨_, rfl⟩
  | true => exact ⟨_, if_pos (h hb hv)⟩

/-- The issue of a command with a meaning answers a next state. -/
theorem commandIssue_answers (hh : s.hostIn = .issue cw a0 a1 :: rest) (hm : s.hostMoveHasMeaning) :
    ∃ t, commandIssue ⟨cw, a0, a1⟩ { s with hostIn := rest } = .next t := by
  cases hd : decodeCommand ⟨cw, a0, a1⟩ with
  | rejected e =>
    rw [commandIssue_of_rejected hd]
    exact unlessBusy_answers fun _ => ⟨_, rfl⟩
  | ok i =>
    rw [commandIssue_of_ok hd]
    simp only [State.hostMoveHasMeaning, hh, hd] at hm
    have hfree (hb : s.busy = false) := hm.resolve_left (by simp [hb])
    obtain ⟨-, hi, -⟩ := decodeCommand_ok hd
    obtain rfl | rfl | rfl | rfl | rfl | rfl | rfl | rfl | rfl | rfl | rfl := instrOfOp_some hi
    · exact unlessBusy_answers fun _ => ⟨_, rfl⟩
    · exact issuePort_answers hfree
    · exact issuePort_answers fun hb hok =>
        hfree hb (Bool.and_eq_true_iff.mp hok).1 (Bool.and_eq_true_iff.mp hok).2
    · exact issuePort_answers hfree
    · exact unlessBusy_answers fun _ => ⟨_, rfl⟩
    · exact unlessBusy_answers fun _ => ⟨_, rfl⟩
    · exact unlessBusy_answers fun _ => ⟨_, rfl⟩
    · exact unlessBusy_answers fun _ => ⟨_, rfl⟩
    · exact unlessBusy_answers fun _ => ⟨_, rfl⟩
    · exact execApply_answers hfree
    · exact unlessBusy_answers fun _ => ⟨_, rfl⟩

/-- Settles O54: the block's own step and the issue of a command answer a next state; the other moves always do, or have no
meaning. -/
theorem machineAlwaysHasAStep : Obligations.MachineAlwaysHasAStep := by
  intro s h hm
  match hh : s.hostIn with
  | [] =>
    rw [step_block h.cfgWf hh]
    exact blockStep_answers h
  | .pass :: rest =>
    rw [step_pass h.cfgWf hh]
    exact blockStep_answers (h.withHostIn rest)
  | .wait :: rest =>
    cases hb : s.busy with
    | false => exact ⟨_, step_wait_free h.cfgWf hh hb⟩
    | true =>
      rw [step_wait_busy h.cfgWf hh hb]
      exact blockStep_answers h
  | .issue cw a0 a1 :: rest =>
    rw [step_issue h.cfgWf hh]
    exact commandIssue_answers hh hm
  | .reset :: rest => exact ⟨_, step_reset h.cfgWf hh⟩
  | .read r :: rest =>
    have hr : hostRead s r ≠ none := by simpa only [State.hostMoveHasMeaning, hh] using hm
    exact ⟨_, (step_read h.cfgWf hh).trans (if_neg hr)⟩
  | .blit :: rest => simp [State.hostMoveHasMeaning, hh] at hm

/-! ## What a step does to the data registers and to the history -/

/-- The flags, the block, the timing set, the mode table, the Mode/Plane State and `RDATA` (R26 to R31, R124), with the
configuration (R21). -/
structure DataRegisters where
  cfg            : Cfg
  rdata          : U64
  edidValid      : Bool
  timingValid    : Bool
  configured     : Bool
  edid           : Vector U8 128
  foundTransport : Transport
  foundPin       : U8
  timing         : TimingSet
  tblHres        : U32
  tblVres        : U32
  mode           : ModeState

/-- The data registers of a state. -/
def State.dataRegisters (s : State) : DataRegisters := { s with }

/-- What a step but `RESET` may do to the data registers `d`, in phase `p` for pin `pin`: leave them, or write what the rule of
its phase or of the command issued says. -/
inductive DataChange (p : Phase) (pin : U8) (d : DataRegisters) : DataRegisters → Prop where
  | kept : DataChange p pin d d
  | readData (hp : p = .ptRd32 ∨ p = .ptRd64) (v : U64) : DataChange p pin d { d with rdata := v }
  | block (hp : p = .twRdWord ∨ p = .axFetch) (b : Vector U8 128) : DataChange p pin d { d with edid := b }
  | found (tr : Transport) (hp : p = .twCheck ∧ tr = .twoWire ∨ p = .axCheck ∧ tr = .aux) (hm : magic d.edid = true) :
      DataChange p pin d { d with foundTransport := tr, foundPin := pin, edidValid := true }
  | timing (hp : p = .dcRun) (tm : TimingSet) :
      DataChange p pin d { d with timing := tm, tblHres := tm.hActive, tblVres := tm.vActive, timingValid := true }
  | mode (hp : p = .apPlCtl) (m : ModeState) : DataChange p pin d { d with mode := m }
  | configured (hp : p = .apPublish) : DataChange p pin d { d with configured := true }
  | timingCleared : DataChange p pin d { d with timingValid := false }
  | blockCleared : DataChange p pin d { d with edidValid := false, timingValid := false }

/-- A history that has grown by one event at most. -/
def AtMostOneEvent (old new : List Event) : Prop := ∃ es : List Event, es.length ≤ 1 ∧ new = old ++ es

theorem atMostOneEvent_same {l : List Event} : AtMostOneEvent l l := ⟨[], Nat.zero_le 1, (List.append_nil l).symm⟩

theorem atMostOneEvent_append {l : List Event} (e : Event) : AtMostOneEvent l (l ++ [e]) := ⟨[e], le_rfl, rfl⟩

/-- What a step does to the history and to the data registers. -/
def State.Effect (s t : State) : Prop :=
  AtMostOneEvent s.hist t.hist ∧ DataChange s.pc s.pin s.dataRegisters t.dataRegisters

theorem State.Effect.of_next {u : State} (hu : s.Effect u) (hs : (.next u : Outcome) = .next t) : s.Effect t :=
  Host.Outcome.next.inj hs ▸ hu

/-- A step without a port access that writes no data register. -/
theorem effect_quiet (hh : t.hist = s.hist) (hd : t.dataRegisters = s.dataRegisters) : s.Effect t :=
  ⟨hh ▸ atMostOneEvent_same, hd ▸ .kept⟩

theorem effect_quiet_of_next {u : State} (hs : (.next u : Outcome) = .next t) (hh : u.hist = s.hist)
    (hd : u.dataRegisters = s.dataRegisters) : s.Effect t :=
  (effect_quiet hh hd).of_next hs

/-- A step of one access or exchange that writes no data register. -/
theorem effect_access {e : Event} (hh : t.hist = s.hist ++ [e]) (hd : t.dataRegisters = s.dataRegisters) : s.Effect t :=
  ⟨hh ▸ atMostOneEvent_append e, hd ▸ .kept⟩

theorem attemptEnd_hist (o : AttemptOutcome) : (attemptEnd tr o s).hist = s.hist := by
  unfold attemptEnd
  split <;> cases o <;> rfl

theorem attemptEnd_dataRegisters (o : AttemptOutcome) :
    (attemptEnd tr o s).dataRegisters = (s.recordOutcome tr o).dataRegisters := by
  unfold attemptEnd
  split <;> rfl

/-- A complete attempt is recorded only where the block has the magic header. -/
theorem attemptEnd_effect {o : AttemptOutcome} (hp : s.pc = .twCheck ∧ tr = .twoWire ∨ s.pc = .axCheck ∧ tr = .aux)
    (hm : o = .found → magic s.edid = true) : s.Effect (attemptEnd tr o s) := by
  by_cases ho : o = .found
  · subst ho
    exact ⟨attemptEnd_hist (s := s) _ ▸ atMostOneEvent_same, attemptEnd_dataRegisters (s := s) _ ▸ .found tr hp (hm rfl)⟩
  · exact effect_quiet (attemptEnd_hist o) (by rw [attemptEnd_dataRegisters, State.recordOutcome_of_ne_found ho])

theorem withAuxPin_effect {k : AuxOffsets → State} (hs : s.withAuxPin k = .next t) (hk : ∀ a, s.Effect (k a)) : s.Effect t := by
  obtain ⟨a, -, rfl⟩ := State.withAuxPin_next.mp hs
  exact hk a

theorem phaseTwWaitIdle_effect : s.Effect (phaseTwWaitIdle s) := by
  unfold phaseTwWaitIdle
  split
  · exact effect_access (attemptEnd_hist _) (attemptEnd_dataRegisters _)
  · exact effect_access rfl rfl
  · exact effect_access rfl rfl

theorem phaseTwWaitIdx_effect : s.Effect (phaseTwWaitIdx s) := by
  unfold phaseTwWaitIdx
  split <;> exact effect_access rfl rfl

theorem phaseTwWaitWord_effect : s.Effect (phaseTwWaitWord s) := by
  unfold phaseTwWaitWord
  split <;> exact effect_access rfl rfl

theorem phaseTwRdWord_effect (hp : s.pc = .twRdWord) (hs : phaseTwRdWord s = .next t) : s.Effect t := by
  unfold phaseTwRdWord at hs
  split at hs
  · obtain rfl := Host.Outcome.next.inj hs
    exact ⟨atMostOneEvent_append _, .block (.inl hp) _⟩
  · nomatch hs

theorem phaseTwWaitStop_effect : s.Effect (phaseTwWaitStop s) := by
  unfold phaseTwWaitStop
  split <;> exact effect_access rfl rfl

theorem phaseAxLoadHdr_effect (hs : phaseAxLoadHdr s = .next t) : s.Effect t := by
  unfold phaseAxLoadHdr at hs
  split at hs <;> exact withAuxPin_effect hs fun _ => effect_access rfl rfl

theorem phaseAxAfter_effect : s.Effect (phaseAxAfter s) := by
  unfold phaseAxAfter
  split
  · exact effect_quiet rfl rfl
  · split
    · exact effect_quiet (attemptEnd_hist _) (attemptEnd_dataRegisters _)
    · exact effect_quiet rfl rfl
  · exact effect_quiet rfl rfl

theorem phaseAxFetch_effect (hp : s.pc = .axFetch) (hs : phaseAxFetch s = .next t) : s.Effect t := by
  unfold phaseAxFetch at hs
  split at hs
  · exact withAuxPin_effect hs fun _ => ⟨atMostOneEvent_append _, .block (.inr hp) _⟩
  · nomatch hs

theorem phaseAxCheck_effect (hp : s.pc = .axCheck) : s.Effect (phaseAxCheck s) :=
  attemptEnd_effect (.inr ⟨hp, rfl⟩) fun ho => by
    by_contra hm
    simp [hm] at ho

theorem phaseAqNextTw_effect : s.Effect (phaseAqNextTw s) := by
  unfold phaseAqNextTw
  split <;> exact effect_quiet rfl rfl

theorem phaseAqNextAux_effect : s.Effect (phaseAqNextAux s) := by
  unfold phaseAqNextAux
  split <;> exact effect_quiet rfl rfl

theorem phaseAqDone_effect : s.Effect (phaseAqDone s) := by
  unfold phaseAqDone
  split <;> exact effect_quiet rfl rfl

theorem phaseApPublish_effect (hp : s.pc = .apPublish) : s.Effect (phaseApPublish s) := by
  unfold phaseApPublish
  split
  · exact ⟨atMostOneEvent_append _, .configured hp⟩
  · split <;> exact effect_access rfl rfl
  · exact effect_access rfl rfl

theorem phaseApGrow_effect : s.Effect (phaseApGrow s) := by
  unfold phaseApGrow
  split <;> exact effect_access rfl rfl

/-- What the block's own step does, phase by phase; the phases left to the end are one access and a move. -/
theorem blockStep_effect (hs : blockStep s = .next t) : s.Effect t := by
  cases hp : s.pc <;> rw [blockStep, hp] at hs
  case twRdWord => exact phaseTwRdWord_effect hp hs
  case axLoadHdr => exact phaseAxLoadHdr_effect hs
  case axLoadData | axStart | axPoll | axClear => exact withAuxPin_effect hs fun _ => effect_access rfl rfl
  case axFetch => exact phaseAxFetch_effect hp hs
  all_goals obtain rfl := Host.Outcome.next.inj hs
  case idle | axBegin | aqFail | mqRun => exact effect_quiet rfl rfl
  case ptRd32 => exact ⟨atMostOneEvent_append _, .readData (.inl hp) _⟩
  case ptRd64 => exact ⟨atMostOneEvent_append _, .readData (.inr hp) _⟩
  case twWaitIdle => exact phaseTwWaitIdle_effect
  case twWaitIdx => exact phaseTwWaitIdx_effect
  case twWaitWord => exact phaseTwWaitWord_effect
  case twWaitStop => exact phaseTwWaitStop_effect
  case twCheck => exact attemptEnd_effect (.inl ⟨hp, rfl⟩) twOutcome_found
  case axAfter => exact phaseAxAfter_effect
  case axCheck => exact phaseAxCheck_effect hp
  case aqNextTw => exact phaseAqNextTw_effect
  case aqNextAux => exact phaseAqNextAux_effect
  case aqDone => exact phaseAqDone_effect
  case dcRun => exact ⟨atMostOneEvent_same, .timing hp _⟩
  case apPlCtl => exact ⟨atMostOneEvent_append _, .mode hp _⟩
  case apPublish => exact phaseApPublish_effect hp
  case apGrow => exact phaseApGrow_effect
  all_goals exact effect_access rfl rfl

/-! ## What command issue does -/

theorem unlessBusy_effect {k : Outcome} (hs : s.unlessBusy k = .next t) (hk : k = .next t → s.Effect t) : s.Effect t := by
  cases hb : s.busy with
  | false => exact hk (by rwa [State.unlessBusy_of_free hb] at hs)
  | true => exact effect_quiet_of_next ((State.unlessBusy_of_busy hb k).symm.trans hs) rfl rfl

theorem issuePort_effect {op : U8} {ok al : Bool} {p : Phase} (hs : issuePort op ok al a0 a1 p s = .next t) : s.Effect t := by
  obtain ⟨-, rfl⟩ | ⟨-, -, rfl⟩ | ⟨-, -, -, rfl⟩ := issuePort_next hs <;> exact effect_quiet rfl rfl

/-- A search that starts clears both validity flags (R26). -/
theorem startSearch_effect {op cmdPin pin : U8} {first : Phase} :
    s.Effect { (s.accept op cmdPin a0 a1 first).clearValidity with pin := pin } :=
  ⟨atMostOneEvent_same, .blockCleared⟩

theorem execTwRead_effect {pin : U8} (hs : execTwRead pin a0 a1 s = .next t) : s.Effect t := by
  refine unlessBusy_effect hs fun hk => ?_
  split at hk
  · exact startSearch_effect.of_next hk
  · exact effect_quiet_of_next hk rfl rfl

theorem execAuxRead_effect {pin : U8} (hs : execAuxRead pin a0 a1 s = .next t) : s.Effect t := by
  refine unlessBusy_effect hs fun hk => ?_
  split at hk
  · exact startSearch_effect.of_next hk
  · exact effect_quiet_of_next hk rfl rfl

theorem execDecode_effect (hs : execDecode a0 a1 s = .next t) : s.Effect t := by
  refine unlessBusy_effect hs fun hk => ?_
  obtain rfl := Host.Outcome.next.inj hk
  split
  · exact ⟨atMostOneEvent_same, .timingCleared⟩
  · exact effect_quiet rfl rfl

theorem execApply_effect (hs : execApply a0 a1 s = .next t) : s.Effect t := by
  refine unlessBusy_effect hs fun hk => ?_
  split_ifs at hk <;> exact effect_quiet_of_next hk rfl rfl

/-- Command issue makes no access and writes no data register but the validity flags. -/
theorem commandIssue_effect {w : CmdWords} (hs : commandIssue w s = .next t) : s.Effect t := by
  obtain ⟨i, hd, hx⟩ | ⟨e, -, ⟨-, rfl⟩ | ⟨-, rfl⟩⟩ := commandIssue_next hs
  · obtain ⟨-, hi, -⟩ := decodeCommand_ok hd
    obtain rfl | rfl | rfl | rfl | rfl | rfl | rfl | rfl | rfl | rfl | rfl := instrOfOp_some hi
    · exact unlessBusy_effect hx fun hk => effect_quiet_of_next hk rfl rfl
    · exact issuePort_effect hx
    · exact issuePort_effect hx
    · exact issuePort_effect hx
    · exact execTwRead_effect hx
    · exact execAuxRead_effect hx
    · exact unlessBusy_effect hx startSearch_effect.of_next
    · exact unlessBusy_effect hx startSearch_effect.of_next
    · exact execDecode_effect hx
    · exact execApply_effect hx
    · exact unlessBusy_effect hx fun hk => effect_quiet_of_next hk rfl rfl
  · exact effect_quiet rfl rfl
  · exact effect_quiet rfl rfl

/-! ## What a step of the machine does -/

/-- Every step but `RESET` adds one event at most and writes data registers by the rule of its phase or command only. -/
theorem step_effect (hs : step s = .next t) :
    s.Effect t ∨ ∃ rest, s.hostIn = .reset :: rest ∧ t = { s with hostIn := rest }.hostReset := by
  obtain ⟨-, hcases⟩ := step_next hs
  obtain ⟨-, hb⟩ | ⟨rest, -, hb⟩ | ⟨rest, -, -, hb⟩ | ⟨rest, -, -, rfl⟩ | ⟨cw, a0, a1, rest, -, hc⟩ | ⟨rest, hh, rfl⟩ |
    ⟨reg, rest, -, -, rfl⟩ := hcases
  · exact .inl (blockStep_effect hb)
  · exact .inl (blockStep_effect (s := { s with hostIn := rest }) hb)
  · exact .inl (blockStep_effect hb)
  · exact .inl (effect_quiet rfl rfl)
  · exact .inl (commandIssue_effect (s := { s with hostIn := rest }) hc)
  · exact .inr ⟨rest, hh, rfl⟩
  · exact .inl (effect_quiet rfl rfl)

/-- Settles O55: only `RESET` takes events away, and only where the history is not kept. -/
theorem stepAddsAtMostOneEvent : Obligations.StepAddsAtMostOneEvent := by
  intro s t hs
  obtain ⟨hevents, -⟩ | ⟨rest, hh, rfl⟩ := step_effect hs
  · exact .inl hevents
  · cases hkept : s.cfg.histKept with
    | true => exact .inl ⟨[], Nat.zero_le 1, by simp [hkept]⟩
    | false => exact .inr ⟨rfl, ⟨rest, hh⟩, by simp [hkept]⟩

/-- Settles O57: each way the data registers can change writes the registers of one clause, in the phase that clause names. -/
theorem registersChangeOnlyInTheirOwnPhase : Obligations.RegistersChangeOnlyInTheirOwnPhase := by
  intro s t hs hreset
  obtain ⟨-, hdata⟩ | ⟨rest, hh, -⟩ := step_effect hs
  · generalize hd : t.dataRegisters = d at hdata
    simp only [State.dataRegisters] at hd
    cases hdata with
    | found tr hp hm => obtain ⟨hp, rfl⟩ | ⟨hp, rfl⟩ := hp <;> simp_all [State.dataRegisters]
    | _ => simp_all [State.dataRegisters]
  · exact absurd hh (hreset rest)

end Sys2Proof.Machine
end

section
/-! PROOFS. The family 20_memory.md: the `PORT_` offsets and the aperture relation the spec refuses (R72; 45 R211), and where the
bytes of a two-wire word are stored (R69).

The operand checks are stated once as facts about the operand's number, the store of a word once by the byte it leaves at each
place of the buffer. -/

namespace Sys2Proof.Machine

variable {s : State} {a a0 a1 : U64}

/-! ## The operand checks as facts about numbers -/

theorem highHalfZero_iff : highHalfZero a = true ↔ a.toNat < 2 ^ 32 := by
  have hshift : (a >>> 32).toNat = 0 ↔ a.toNat < 2 ^ 32 := by
    rw [BitVec.toNat_ushiftRight, Nat.shiftRight_eq_div_pow]
    omega
  simpa [highHalfZero, BitVec.toNat_eq] using hshift

theorem lowHalf_toNat (h : a.toNat < 2 ^ 32) : (lowHalf a).toNat = a.toNat := by
  rw [lowHalf, BitVec.toNat_setWidth, Nat.mod_eq_of_lt h]

theorem offsetAligned_iff {n : Nat} (h : a.toNat < 2 ^ 32) : offsetAligned n a = true ↔ a.toNat % n = 0 := by
  rw [offsetAligned, lowHalf_toNat h, beq_iff_eq]

/-- The difference of two words is their difference as numbers where the aperture lies below the framebuffer. -/
theorem apertureOk_iff : apertureOk a0 a1 = true ↔ a1.toNat ≤ a0.toNat ∧ a0.toNat - a1.toNat < 2 ^ 32 := by
  rw [apertureOk, Bool.and_eq_true_iff, decide_eq_true_iff, decide_eq_true_iff, BitVec.le_def]
  exact and_congr_right fun h => by rw [BitVec.toNat_sub_of_le h]

/-! ## What issue refuses -/

/-- A free block refuses a `PORT_` command whose operands are 32-bit and whose offset is misaligned (R72). -/
theorem issuePort_misaligned {op : U8} {ok al : Bool} {p : Phase} (hfree : s.busy = false) (hok : ok = true) (hal : al ≠ true) :
    issuePort op ok al a0 a1 p s = .refused .misalignedOffset := by
  rw [issuePort, State.unlessBusy_of_free hfree, if_pos hok, if_neg hal]

/-- A free block with a timing set refuses an `APPLY` outside the aperture relation (45 R211 (b)). -/
theorem execApply_outside_aperture (hfree : s.busy = false) (hv : s.timingValid = true) (hap : apertureOk a0 a1 ≠ true) :
    execApply a0 a1 s = .refused .framebufferOutsideAperture := by
  rw [execApply, State.unlessBusy_of_free hfree, if_pos hv, if_neg hap]

/-- Settles O13: each operand check is the condition of its clause, and the checks that give a code pass. -/
theorem refusedOperandsHaveNoStep : Obligations.RefusedOperandsHaveNoStep := by
  intro s a0 a1 hfree
  refine ⟨fun h0 hal => ?_, fun h0 h1 hal => ?_, fun h0 hal => ?_, fun hv hap => ?_⟩
  · exact issuePort_misaligned hfree (highHalfZero_iff.mpr h0) (mt (offsetAligned_iff h0).mp hal)
  · exact issuePort_misaligned hfree (Bool.and_eq_true_iff.mpr ⟨highHalfZero_iff.mpr h0, highHalfZero_iff.mpr h1⟩)
      (mt (offsetAligned_iff h0).mp hal)
  · exact issuePort_misaligned hfree (highHalfZero_iff.mpr h0) (mt (offsetAligned_iff h0).mp hal)
  · exact execApply_outside_aperture hfree hv (mt apertureOk_iff.mp hap)

/-! ## The store of a two-wire word -/

/-- The byte at each place of the buffer after a word has been stored. -/
theorem getElem?_storeWord (b : Vector U8 128) {i : Nat} (w : U32) (h : i + 4 ≤ 128) (j : Nat) :
    (storeWord b i w)[j]? =
      if i + 3 = j then some (bits 31 24 w) else if i + 2 = j then some (bits 23 16 w)
      else if i + 1 = j then some (bits 15 8 w) else if i = j then some (bits 7 0 w) else b[j]? := by
  simp only [storeWord, Vector.getElem?_setIfInBounds]
  rw [if_pos (show i + 3 < 128 by omega), if_pos (show i + 2 < 128 by omega), if_pos (show i + 1 < 128 by omega),
    if_pos (show i < 128 by omega)]

/-- The four bytes lie at `i`, the lowest first. -/
theorem storeWord_bytes (b : Vector U8 128) {i : Nat} (w : U32) (h : i + 4 ≤ 128) :
    (storeWord b i w)[i]? = some (bits 7 0 w) ∧ (storeWord b i w)[i + 1]? = some (bits 15 8 w) ∧
    (storeWord b i w)[i + 2]? = some (bits 23 16 w) ∧ (storeWord b i w)[i + 3]? = some (bits 31 24 w) := by
  simp [getElem?_storeWord b w h]

/-- The store of a word at `i` leaves the bytes below `i` and from `i + 4` on. -/
theorem storeWord_frame (b : Vector U8 128) {i j : Nat} (w : U32) (h : i + 4 ≤ 128) (hj : j < i ∨ i + 4 ≤ j) :
    (storeWord b i w)[j]? = b[j]? := by
  rw [getElem?_storeWord b w h, if_neg (by omega), if_neg (by omega), if_neg (by omega), if_neg (by omega)]

/-- What a 32-bit read yields where the device script has an answer. -/
theorem State.read32Value_of_script {d : U64} {ds : List U64} (h : s.devIn = d :: ds) (off : U32) :
    s.read32Value off = zext 32 d := by
  rw [State.read32Value, State.deviceAnswer, h]

/-- The whole of phase `TW_RD_WORD` where the buffer has the four bytes. -/
theorem blockStep_twRdWord (hp : s.pc = .twRdWord) (hi : s.idx.toNat + 4 ≤ 128) :
    blockStep s = .next ({ s.read32 s.cfg.twDataOff with
      edid := storeWord s.edid s.idx.toNat (s.read32Value s.cfg.twDataOff), idx := s.idx + 4 }.goto
      (if s.idx.toNat + 4 ≥ 128 then .twWaitStop else .twWaitWord)) := by
  simp only [blockStep, hp, phaseTwRdWord, if_pos hi]

/-- Settles O21: the state is that of the phase, the bytes are those of the store of a word. -/
theorem twoWireWordIsStoredLowByteFirst : Obligations.TwoWireWordIsStoredLowByteFirst := by
  intro s hp hi
  obtain ⟨h0, h1, h2, h3⟩ := storeWord_bytes s.edid (s.read32Value s.cfg.twDataOff) hi
  exact ⟨_, s.read32Value s.cfg.twDataOff, blockStep_twRdWord hp hi, fun _ _ hd => State.read32Value_of_script hd _, rfl, rfl,
    h0, h1, h2, h3, fun _ hj => storeWord_frame s.edid _ hi hj⟩

end Sys2Proof.Machine
end

section
/-! PROOFS. The family 30_encoding.md: commands and wire words read back as what they were written from (R81, R83, R86, R90),
the fields of the words (R89 to R95, R104, R107), what issue does to a busy and to a free block (R82), and the words the block
writes (R112).

A command word and a request header are taken apart as numbers: each is the sum of its fields at their places, so that every
field is a quotient and a remainder. A word that holds bits of the configuration is its own fields ORed with those bits. -/

namespace Sys2Proof.Machine

variable {s t : State} {c : Cfg} {cw : U32} {a0 a1 : U64} {rest : List HostEvent}

/-! ## Fields as numbers -/

theorem bits_toNat {w : Nat} (hi lo : Nat) (v : BitVec w) :
    (bits hi lo v).toNat = v.toNat / 2 ^ lo % 2 ^ (hi - lo + 1) := by
  rw [bits, BitVec.extractLsb_toNat, Nat.shiftRight_eq_div_pow]

/-- An OR of a field with what lies below it is a sum. -/
theorem mul_two_pow_or {k low : Nat} (field : Nat) (h : low < 2 ^ k) : field * 2 ^ k ||| low = field * 2 ^ k + low := by
  rw [← Nat.shiftLeft_eq, Nat.shiftLeft_add_eq_or_of_lt h]

/-! ## Command words (R81) -/

theorem cwOp_toNat (cw : U32) : (cwOp cw).toNat = cw.toNat % 256 := by
  rw [cwOp, bits_toNat]
  omega

theorem cwPin_toNat (cw : U32) : (cwPin cw).toNat = cw.toNat / 256 % 256 := by
  rw [cwPin, bits_toNat]; rfl

theorem cwRsvd_toNat (cw : U32) : (cwRsvd cw).toNat = cw.toNat / 65536 := by
  rw [cwRsvd, bits_toNat]
  omega

theorem commandWord_toNat (op pin : U8) : (commandWord op pin).toNat = pin.toNat * 2 ^ 8 + op.toNat := by
  have hop := op.isLt
  have hpin := pin.isLt
  simp (disch := omega) only [commandWord, BitVec.toNat_or, BitVec.toNat_shiftLeft, BitVec.toNat_setWidth, Nat.shiftLeft_eq,
    Nat.mod_eq_of_lt, mul_two_pow_or]

@[simp] theorem cwOp_commandWord (op pin : U8) : cwOp (commandWord op pin) = op := by
  apply BitVec.eq_of_toNat_eq
  rw [cwOp_toNat, commandWord_toNat]
  omega

@[simp] theorem cwPin_commandWord (op pin : U8) : cwPin (commandWord op pin) = pin := by
  apply BitVec.eq_of_toNat_eq
  rw [cwPin_toNat, commandWord_toNat]
  omega

@[simp] theorem cwRsvd_commandWord (op pin : U8) : cwRsvd (commandWord op pin) = 0 := by
  apply BitVec.eq_of_toNat_eq
  rw [cwRsvd_toNat, commandWord_toNat]
  exact Nat.div_eq_of_lt (by omega)

/-- A command word without reserved bits is the one of its opcode and pin. -/
theorem commandWord_of_rsvd (h : cwRsvd cw = 0) : commandWord (cwOp cw) (cwPin cw) = cw := by
  have hr : cw.toNat / 65536 = 0 := by rw [← cwRsvd_toNat, h]; rfl
  apply BitVec.eq_of_toNat_eq
  rw [commandWord_toNat, cwOp_toNat, cwPin_toNat]
  omega

/-- A command word decodes to the instruction of its opcode where the opcode takes the pin or the pin is 0. -/
theorem decodeCommand_commandWord {op pin : U8} {i : Instr} (hi : instrOfOp op pin a0 a1 = some i)
    (hpin : (takesPin op || pin == 0) = true) : decodeCommand ⟨commandWord op pin, a0, a1⟩ = .ok i := by
  simp only [decodeCommand, cwRsvd_commandWord, cwOp_commandWord, cwPin_commandWord, hi, hpin, if_true]

/-- Settles O4: a command's word holds its opcode and pin, and its opcode stands for it. -/
theorem commandDecodeOfEncodeIsIdentity : Obligations.CommandDecodeOfEncodeIsIdentity := by
  intro c i hIndex hProbe hByte hIndexCycle hReadCycle
  cases i with
  | auxIndexWrite a => exact absurd rfl (hIndex a)
  | auxWriteProbe a => exact absurd rfl (hProbe a)
  | auxReadByte a => exact absurd rfl (hByte a)
  | twIndexWriteCycle a => exact absurd rfl (hIndexCycle a)
  | twReadCycle a => exact absurd rfl (hReadCycle a)
  | _ => exact ⟨_, rfl, decodeCommand_commandWord rfl rfl⟩

/-- An instruction but `NOP` is encoded with the opcode, the pin and the operands it was read from. -/
theorem encode_of_instrOfOp {op pin : U8} {i : Instr} (hi : instrOfOp op pin a0 a1 = some i) (hnop : i ≠ .nop)
    (hpin : takesPin op = true ∨ pin = 0) : encode c i = .command ⟨commandWord op pin, a0, a1⟩ := by
  have hzero (hop : takesPin op = false) : pin = 0 := hpin.resolve_left (by simp [hop])
  unfold instrOfOp at hi
  obtain ⟨rfl, ⟨⟩⟩ | ⟨-, hi⟩ := ite_eq_iff.mp hi
  · exact absurd rfl hnop
  obtain ⟨rfl, ⟨⟩⟩ | ⟨-, hi⟩ := ite_eq_iff.mp hi
  · rw [hzero rfl]; rfl
  obtain ⟨rfl, ⟨⟩⟩ | ⟨-, hi⟩ := ite_eq_iff.mp hi
  · rw [hzero rfl]; rfl
  obtain ⟨rfl, ⟨⟩⟩ | ⟨-, hi⟩ := ite_eq_iff.mp hi
  · rw [hzero rfl]; rfl
  obtain ⟨rfl, ⟨⟩⟩ | ⟨-, hi⟩ := ite_eq_iff.mp hi
  · rfl
  obtain ⟨rfl, ⟨⟩⟩ | ⟨-, hi⟩ := ite_eq_iff.mp hi
  · rfl
  obtain ⟨rfl, ⟨⟩⟩ | ⟨-, hi⟩ := ite_eq_iff.mp hi
  · rw [hzero rfl]; rfl
  obtain ⟨rfl, ⟨⟩⟩ | ⟨-, hi⟩ := ite_eq_iff.mp hi
  · rw [hzero rfl]; rfl
  obtain ⟨rfl, ⟨⟩⟩ | ⟨-, hi⟩ := ite_eq_iff.mp hi
  · rw [hzero rfl]; rfl
  obtain ⟨rfl, ⟨⟩⟩ | ⟨-, hi⟩ := ite_eq_iff.mp hi
  · rw [hzero rfl]; rfl
  obtain ⟨rfl, ⟨⟩⟩ | ⟨-, hi⟩ := ite_eq_iff.mp hi
  · rw [hzero rfl]; rfl
  nomatch hi

/-- Settles O6: the word is the one of its opcode and pin, and the instruction is encoded with these. -/
theorem commandEncodeOfDecodeIsIdentity : Obligations.CommandEncodeOfDecodeIsIdentity := by
  intro c w i hd hnop
  obtain ⟨hr, hi, hpin⟩ := decodeCommand_ok hd
  rw [encode_of_instrOfOp hi hnop hpin, commandWord_of_rsvd hr]

/-! ## Request headers (R90) -/

theorem auxHdr_toNat (op : BitVec 4) (addr : U16) (len : U8) :
    (auxHdr op addr len).toNat = op.toNat * 2 ^ 28 + addr.toNat * 2 ^ 8 + len.toNat := by
  have hop := op.isLt
  have haddr := addr.isLt
  have hlen := len.isLt
  simp (disch := omega) only [auxHdr, BitVec.toNat_or, BitVec.toNat_shiftLeft, BitVec.toNat_setWidth, Nat.shiftLeft_eq,
    Nat.mod_eq_of_lt]
  rw [Nat.or_assoc, mul_two_pow_or _ hlen, mul_two_pow_or _ (by omega), Nat.add_assoc]

theorem auxHdr_op (op : BitVec 4) (addr : U16) (len : U8) : bits 31 28 (auxHdr op addr len) = op := by
  apply BitVec.eq_of_toNat_eq
  rw [bits_toNat, auxHdr_toNat]
  omega

theorem auxHdr_addr (op : BitVec 4) (addr : U16) (len : U8) : bits 23 8 (auxHdr op addr len) = addr := by
  apply BitVec.eq_of_toNat_eq
  rw [bits_toNat, auxHdr_toNat]
  omega

theorem auxHdr_reserved (op : BitVec 4) (addr : U16) (len : U8) : bits 27 24 (auxHdr op addr len) = 0 := by
  apply BitVec.eq_of_toNat_eq
  rw [bits_toNat, auxHdr_toNat]
  show _ = 0
  omega

theorem auxHdr_len (op : BitVec 4) (addr : U16) (len : U8) : bits 7 0 (auxHdr op addr len) = len := by
  apply BitVec.eq_of_toNat_eq
  rw [bits_toNat, auxHdr_toNat]
  omega

/-- Headers of operations with different codes differ. -/
theorem auxHeader_ne {op op' : AuxOp} {addr : U16} (h : auxOpCode c op ≠ auxOpCode c op') :
    auxHeader c op addr ≠ auxHeader c op' addr := fun he =>
  h (by simpa only [auxHeader, auxHdr_op] using congrArg (bits 31 28) he)

/-- Reading a header takes the address from its field and tries the three operations in turn. -/
theorem decodeAuxHeader_auxHeader (op : AuxOp) (addr : U16) :
    decodeAuxHeader c (auxHeader c op addr) =
      if auxHeader c op addr = auxHeader c .indexWrite addr then .ok (.auxIndexWrite addr)
      else if auxHeader c op addr = auxHeader c .writeProbe addr then .ok (.auxWriteProbe addr)
      else if auxHeader c op addr = auxHeader c .readByte addr then .ok (.auxReadByte addr)
      else .rejected .notAuxHeader := by
  have haddr : bits 23 8 (auxHeader c op addr) = addr := auxHdr_addr _ _ _
  rw [decodeAuxHeader, haddr]

/-! ## The words of the two-wire *command* register (R86) -/

/-- In the default layout the address lies above bit 0 and below the byte count. -/
theorem twCmd_default_addr (addr : BitVec 7) (n : U8) {dir : U32} (h : dir >>> 1 = 0) :
    zext 7 (twCmd Cfg.default addr n dir >>> 1) = addr := by
  have hdir (i : Nat) : dir.getLsbD (1 + i) = false := by
    rw [← BitVec.getLsbD_ushiftRight, h]
    exact BitVec.getLsbD_zero
  ext i hi
  simp only [twCmd, BitVec.getElem_setWidth, BitVec.getLsbD_ushiftRight, BitVec.getLsbD_or, hdir]
  interval_cases i <;> simp [Cfg.default]

/-- In the default layout the direction lies in bit 0. -/
theorem twCmd_default_dir (addr : BitVec 7) (n : U8) (dir : U32) :
    (twCmd Cfg.default addr n dir).getLsbD 0 = dir.getLsbD 0 := by
  simp [twCmd, Cfg.default]

/-- Reading a word of the *command* register takes the address from its field and tries the two cycles in turn. -/
theorem decodeTwCommand_default {w : U32} {addr : BitVec 7} (h : zext 7 (w >>> 1) = addr) :
    decodeTwCommand Cfg.default w =
      if w = twIndexWriteWord Cfg.default addr then .ok (.twIndexWriteCycle addr)
      else if w = twReadWord Cfg.default addr then .ok (.twReadCycle addr)
      else .rejected .notTwoWireCycle := by
  subst h
  rfl

theorem twReadWord_ne_twIndexWriteWord (addr : BitVec 7) :
    twReadWord Cfg.default addr ≠ twIndexWriteWord Cfg.default addr := by
  intro he
  have hdir := congrArg (fun w : U32 => w.getLsbD 0) he
  simp only [twReadWord, twIndexWriteWord, twCmd_default_dir] at hdir
  revert hdir
  decide

/-- Settles O5: each word holds its address, and the operation codes and the directions differ. -/
theorem wireWordDecodeOfEncodeIsIdentity : Obligations.WireWordDecodeOfEncodeIsIdentity := by
  refine ⟨fun a => ?_, fun a => ?_, fun a => ?_, fun a => ?_, fun a => ?_⟩
  · exact (decodeAuxHeader_auxHeader _ a).trans (if_pos rfl)
  · refine (decodeAuxHeader_auxHeader _ a).trans ?_
    rw [if_neg (auxHeader_ne (by decide)), if_pos rfl]
  · refine (decodeAuxHeader_auxHeader _ a).trans ?_
    rw [if_neg (auxHeader_ne (by decide)), if_neg (auxHeader_ne (by decide)), if_pos rfl]
  · exact (decodeTwCommand_default (twCmd_default_addr a _ (by decide))).trans (if_pos rfl)
  · refine (decodeTwCommand_default (twCmd_default_addr a _ (by decide))).trans ?_
    exact (if_neg (twReadWord_ne_twIndexWriteWord a)).trans (if_pos rfl)

/-- Settles O3: the decoder evaluated on the words. -/
theorem wordsWrittenFromTheSpecDecode : Obligations.WordsWrittenFromTheSpecDecode := by
  unfold Obligations.WordsWrittenFromTheSpecDecode
  decide

/-! ## The request bytes, the start word and the clearing word (R89, R92 to R94) -/

theorem auxRequestByte_data1 (w d : U32) {j : Nat} (h : j < 4) :
    (auxRequestByte w d j).toNat = w.toNat / 2 ^ (24 - 8 * j) % 256 := by
  rw [auxRequestByte, if_pos h, Nat.mod_eq_of_lt h, BitVec.toNat_setWidth, BitVec.toNat_ushiftRight, Nat.shiftRight_eq_div_pow]

/-- The bytes of a header, the most significant first: the operation, the two bytes of the address, the length. -/
theorem auxRequestByte_auxHdr (op : BitVec 4) (addr : U16) (len : U8) (d : U32) :
    auxRequestByte (auxHdr op addr len) d 0 = zext 8 op <<< 4 ∧ auxRequestByte (auxHdr op addr len) d 1 = bits 15 8 addr ∧
    auxRequestByte (auxHdr op addr len) d 2 = bits 7 0 addr ∧ auxRequestByte (auxHdr op addr len) d 3 = len := by
  refine ⟨?_, ?_, ?_, ?_⟩ <;> apply BitVec.eq_of_toNat_eq <;> rw [auxRequestByte_data1 _ _ (by omega), auxHdr_toNat]
  · rw [BitVec.toNat_shiftLeft, BitVec.toNat_setWidth, Nat.shiftLeft_eq]
    omega
  · rw [bits_toNat]
    omega
  · rw [bits_toNat]
    omega
  · omega

theorem auxRequestByte_four (w : U32) (b : U8) : auxRequestByte w (auxDataWord b) 4 = b := by
  have hb := b.isLt
  apply BitVec.eq_of_toNat_eq
  simp [auxRequestByte, auxDataWord, Nat.shiftLeft_eq, Nat.shiftRight_eq_div_pow]
  omega

/-- The bits of *control* that a well-formed tuning avoids (R10): 31, 30, 28, 25 and 24:20. -/
def auxCtlFields : U32 := 0xD3F00000

/-- The flags and the size of a start word, without the tuning bits. -/
def auxStartFields (size : BitVec 5) : U32 :=
  0x80000000 ||| 0x40000000 ||| 0x10000000 ||| 0x02000000 ||| (zext 32 size <<< 20)

theorem auxStart_eq (c : Cfg) (size : BitVec 5) : auxStart c size = auxStartFields size ||| c.auxCtlTuning := rfl

theorem auxStartFields_spec : ∀ size : BitVec 5,
    bits 24 20 (auxStartFields size) = size ∧ auxStartFields size &&& ~~~auxCtlFields = 0#32 ∧
    (auxStartFields size).getLsbD 31 = true ∧ (auxStartFields size).getLsbD 30 = true ∧
    (auxStartFields size).getLsbD 28 = true ∧ (auxStartFields size).getLsbD 25 = true := by
  decide

theorem auxCtlTuning_and_not_fields (h : c.wf = true) : c.auxCtlTuning &&& ~~~auxCtlFields = c.auxCtlTuning := by
  have havoid : c.auxCtlTuning &&& auxCtlFields = 0#32 := by
    simp only [Cfg.wf, Cfg.otherWordsWf, Bool.and_eq_true, beq_iff_eq] at h
    obtain ⟨-, ⟨⟨⟨havoid, -⟩, -⟩, -⟩, -⟩ := h
    exact havoid
  calc c.auxCtlTuning &&& ~~~auxCtlFields
      = c.auxCtlTuning &&& auxCtlFields ||| c.auxCtlTuning &&& ~~~auxCtlFields := by rw [havoid, BitVec.zero_or]
    _ = c.auxCtlTuning := by rw [← BitVec.and_or_distrib_left, BitVec.or_not_self, BitVec.and_allOnes]

theorem auxStart_size (h : c.wf = true) (size : BitVec 5) : bits 24 20 (auxStart c size) = size := by
  have htuning : BitVec.extractLsb 24 20 c.auxCtlTuning = 0#_ := by
    have hfields : BitVec.extractLsb 24 20 (~~~auxCtlFields) = 0#_ := by decide
    rw [← auxCtlTuning_and_not_fields h, BitVec.extractLsb_and, hfields, BitVec.and_zero]
  obtain ⟨hsize, -⟩ := auxStartFields_spec size
  rw [auxStart_eq, bits, BitVec.extractLsb_or, htuning, BitVec.or_zero, ← bits, hsize]

theorem auxStart_tuning (h : c.wf = true) (size : BitVec 5) : auxStart c size &&& ~~~auxCtlFields = c.auxCtlTuning := by
  obtain ⟨-, hfields, -⟩ := auxStartFields_spec size
  rw [auxStart_eq, BitVec.and_or_distrib_right, hfields, auxCtlTuning_and_not_fields h, BitVec.zero_or]

theorem auxStart_flag {size : BitVec 5} {i : Nat} (h : (auxStartFields size).getLsbD i = true) :
    (auxStart c size).getLsbD i = true := by
  rw [auxStart_eq, BitVec.getLsbD_or, h, Bool.true_or]

theorem getLsbD_auxClear (st : U32) (i : Nat) :
    (auxClear st).getLsbD i = (st.getLsbD i || i == 30 || i == 28 || i == 25) := by
  have hclear : auxClear st = st ||| BitVec.twoPow 32 30 ||| BitVec.twoPow 32 28 ||| BitVec.twoPow 32 25 := rfl
  simp [hclear, BitVec.getLsbD_twoPow, eq_comm, Bool.beq_eq_decide_eq]

/-- Settles O51: the header as a sum, the start word as fields and tuning bits, the clearing word bit by bit. -/
theorem auxWordFields : Obligations.AuxWordFields := by
  refine ⟨fun op addr len b => ?header, fun c size hwf => ?start, getLsbD_auxClear⟩
  case header =>
    obtain ⟨h0, h1, h2, h3⟩ := auxRequestByte_auxHdr op addr len (auxDataWord b)
    exact ⟨auxHdr_op .., auxHdr_reserved .., auxHdr_addr .., auxHdr_len .., h0, h1, h2, h3, auxRequestByte_four _ b⟩
  case start =>
    obtain ⟨-, -, h31, h30, h28, h25⟩ := auxStartFields_spec size
    exact ⟨auxStart_size hwf size, auxStart_flag h31, auxStart_flag h30, auxStart_flag h28, auxStart_flag h25,
      auxStart_tuning hwf size⟩

/-! ## Timing words and the stride (R104, R107) -/

theorem timingWord_eq (a b : U32) : timingWord a b = (a - 1#32) ||| (b - 1#32) <<< 16 := rfl

theorem timingWord_low (a b : U32) : bits 15 0 (timingWord a b) = bits 15 0 (a - 1#32) := by
  have hshift (x : U32) : BitVec.extractLsb 15 0 (x <<< 16) = 0#_ := by
    ext i hi
    simp
    omega
  rw [timingWord_eq, bits, BitVec.extractLsb_or, hshift, BitVec.or_zero]

theorem timingWord_high (a b : U32) : bits 31 16 (timingWord a b) = bits 31 16 (a - 1#32) ||| bits 15 0 (b - 1#32) := by
  have hshift (x : U32) : BitVec.extractLsb 31 16 (x <<< 16) = bits 15 0 x := by
    ext i hi
    simp
    omega
  rw [timingWord_eq, bits, BitVec.extractLsb_or, hshift]

theorem sub_one_toNat {a : U32} (h : 1 ≤ a.toNat) : (a - 1#32).toNat = a.toNat - 1 :=
  BitVec.toNat_sub_of_le (y := 1#32) h

theorem timingWord_halves {a b : U32} (ha : 1 ≤ a.toNat) (ha' : a.toNat ≤ 65536) (hb : 1 ≤ b.toNat) (hb' : b.toNat ≤ 65536) :
    (bits 15 0 (timingWord a b)).toNat = a.toNat - 1 ∧ (bits 31 16 (timingWord a b)).toNat = b.toNat - 1 := by
  have hhigh : bits 31 16 (a - 1#32) = 0#_ := by
    apply BitVec.eq_of_toNat_eq
    rw [bits_toNat, sub_one_toNat ha]
    show _ = 0
    omega
  rw [timingWord_low, timingWord_high, hhigh, BitVec.zero_or, bits_toNat, bits_toNat, sub_one_toNat ha, sub_one_toNat hb]
  omega

/-- Settles O49: each half is a field of its own where the low one does not reach the high one; 0 wraps to all ones. -/
theorem timingWordHalves : Obligations.TimingWordHalves := by
  intro a b
  refine ⟨timingWord_halves, BitVec.allOnes_or, ?_, rfl⟩
  rw [timingWord_high]
  exact BitVec.or_allOnes

theorem stride_toNat {h : U32} (hfit : h.toNat * 4 + 63 < 2 ^ 32) : (stride h).toNat = (h.toNat * 4 + 63) / 64 * 64 := by
  have hmask (x : U32) : x &&& 0xFFFFFFC0#32 = x >>> 6 <<< 6 := by
    rw [BitVec.shiftLeft_ushiftRight]; rfl
  have hsum : (h * 4 + 63).toNat = h.toNat * 4 + 63 := by
    simp
    omega
  show ((h * 4 + 63) &&& 0xFFFFFFC0#32).toNat = _
  rw [hmask, BitVec.toNat_shiftLeft, BitVec.toNat_ushiftRight, hsum, Nat.shiftLeft_eq, Nat.shiftRight_eq_div_pow]
  omega

theorem planeStrideWord_toNat (h : U32) : (planeStrideWord h).toNat = (stride h).toNat / 64 := by
  rw [planeStrideWord, BitVec.toNat_ushiftRight, Nat.shiftRight_eq_div_pow]

/-- Settles O50: the mask divides by 64 and multiplies by 64 again. -/
theorem strideRoundsUpToSixtyFour : Obligations.StrideRoundsUpToSixtyFour := by
  refine ⟨fun h hfit => ?_, rfl⟩
  rw [planeStrideWord_toNat, stride_toNat hfit]
  omega

/-! ## Issue to a busy and to a free block (R82) -/

/-- A busy block drops every command. -/
theorem exec_of_busy {w : CmdWords} {i : Instr} (hd : decodeCommand w = .ok i) (hb : s.busy = true) : exec i s = .next s := by
  obtain ⟨-, hi, -⟩ := decodeCommand_ok hd
  obtain rfl | rfl | rfl | rfl | rfl | rfl | rfl | rfl | rfl | rfl | rfl := instrOfOp_some hi
  all_goals exact State.unlessBusy_of_busy hb _

theorem commandIssue_of_busy (w : CmdWords) (hb : s.busy = true) : commandIssue w s = .next s := by
  cases hd : decodeCommand w with
  | ok i => rw [commandIssue_of_ok hd, exec_of_busy hd hb]
  | rejected e => rw [commandIssue_of_rejected hd, State.unlessBusy_of_busy hb]

/-- Settles O9: a busy block drops what is issued, be it a command or not. -/
theorem stepDropsACommandIssuedWhileBusy : Obligations.StepDropsACommandIssuedWhileBusy := by
  intro s cw a0 a1 rest hwf hb hh
  rw [step_issue hwf hh]
  exact commandIssue_of_busy _ hb

/-- Settles O11: a free block latches the command; the pin conditions are those of R143 and R166. -/
theorem searchCommandsStart : Obligations.SearchCommandsStart := by
  intro s a0 a1 hb
  refine ⟨fun pin h2 h6 => ?twRead, fun pin h5 => ?auxRead, State.unlessBusy_of_free hb _, State.unlessBusy_of_free hb _⟩
  case twRead =>
    refine (State.unlessBusy_of_free hb _).trans ?_
    rw [if_pos (twPinOk_iff.mpr ⟨h2, h6⟩)]
    rfl
  case auxRead =>
    refine (State.unlessBusy_of_free hb _).trans ?_
    rw [if_pos (auxPinOk_iff.mpr h5)]
    rfl

/-- Settles O12: a free block latches the command where its condition holds. -/
theorem decodeApplyAndModeQueryStart : Obligations.DecodeApplyAndModeQueryStart := by
  intro s a0 a1 hb
  refine ⟨fun hv => ?decode, fun hv hle hlt => ?apply, State.unlessBusy_of_free hb _⟩
  case decode =>
    refine (State.unlessBusy_of_free hb _).trans ?_
    rw [if_pos hv]
    rfl
  case apply =>
    refine (State.unlessBusy_of_free hb _).trans ?_
    rw [if_pos hv, if_pos (apertureOk_iff.mpr ⟨hle, hlt⟩)]
    rfl

/-! ## The fetch of a byte (R95) -/

/-- The whole of phase `AX_FETCH` where `PIN` names a pin and `IDX` a byte of the buffer. -/
theorem blockStep_axFetch {a : AuxOffsets} (ha : s.cfg.auxPins[s.pin.toNat]? = some a) (hp : s.pc = .axFetch)
    (hi : s.idx.toNat < 128) :
    blockStep s = .next ({ s.read32 a.data1 with
      edid := s.edid.setIfInBounds s.idx.toNat (auxReplyByte (s.read32Value a.data1)), idx := s.idx + 1 }.goto
      (if s.idx + 1 = 128 then .axCheck else .axLoadHdr)) := by
  simp only [blockStep, hp, phaseAxFetch, if_pos hi]
  exact State.withAuxPin_next.mpr ⟨a, ha, rfl⟩

/-- Settles O30: the state is that of the phase, and one byte of the buffer is written. -/
theorem auxFetchStoresTheSecondReplyByte : Obligations.AuxFetchStoresTheSecondReplyByte := by
  intro s a ha hp hi
  have hlast : s.idx + 1 = 128 ↔ s.idx.toNat + 1 = 128 := by
    bv_omega
  refine ⟨_, s.read32Value a.data1, blockStep_axFetch ha hp hi, fun _ _ hd => State.read32Value_of_script hd _, rfl, ?_, ?_,
    fun i hne => ?_⟩
  · simp only [State.goto_pc, hlast]
  · exact Vector.getElem?_setIfInBounds_self_of_lt hi
  · exact Vector.getElem?_setIfInBounds_ne hne.symm

/-! ## Command issue makes no access -/

theorem hist_of_next {u : State} (hs : (.next u : Outcome) = .next t) (hu : u.hist = s.hist) : t.hist = s.hist :=
  Host.Outcome.next.inj hs ▸ hu

theorem unlessBusy_hist {k : Outcome} (hs : s.unlessBusy k = .next t) (hk : k = .next t → t.hist = s.hist) :
    t.hist = s.hist := by
  cases hb : s.busy with
  | false => exact hk (by rwa [State.unlessBusy_of_free hb] at hs)
  | true => exact hist_of_next ((State.unlessBusy_of_busy hb k).symm.trans hs) rfl

theorem issuePort_hist {op : U8} {ok al : Bool} {p : Phase} (hs : issuePort op ok al a0 a1 p s = .next t) :
    t.hist = s.hist := by
  obtain ⟨-, rfl⟩ | ⟨-, -, rfl⟩ | ⟨-, -, -, rfl⟩ := issuePort_next hs <;> rfl

theorem execApply_hist (hs : execApply a0 a1 s = .next t) : t.hist = s.hist := by
  refine unlessBusy_hist hs fun hk => ?_
  split_ifs at hk <;> exact hist_of_next hk rfl

theorem commandIssue_hist {w : CmdWords} (hs : commandIssue w s = .next t) : t.hist = s.hist := by
  obtain ⟨i, hd, hx⟩ | ⟨e, -, ⟨-, rfl⟩ | ⟨-, rfl⟩⟩ := commandIssue_next hs
  · obtain ⟨-, hi, -⟩ := decodeCommand_ok hd
    obtain rfl | rfl | rfl | rfl | rfl | rfl | rfl | rfl | rfl | rfl | rfl := instrOfOp_some hi
    · exact unlessBusy_hist hx fun hk => hist_of_next hk rfl
    · exact issuePort_hist hx
    · exact issuePort_hist hx
    · exact issuePort_hist hx
    · exact unlessBusy_hist hx fun hk => hist_of_next hk (by split <;> rfl)
    · exact unlessBusy_hist hx fun hk => hist_of_next hk (by split <;> rfl)
    · exact unlessBusy_hist hx fun hk => hist_of_next hk rfl
    · exact unlessBusy_hist hx fun hk => hist_of_next hk rfl
    · exact unlessBusy_hist hx fun hk => hist_of_next hk (by split <;> rfl)
    · exact execApply_hist hx
    · exact unlessBusy_hist hx fun hk => hist_of_next hk rfl
  · rfl
  · rfl

/-! ## The words the block writes (R112) -/

/-- A word that a step from `s` to `t` adds to the history is one of R112's. -/
def State.WritesOwn (s t : State) : Prop := ∀ off v, t.hist = s.hist ++ [.wr32 off v] → BlockWrites s off v

theorem writesOwn_quiet (hh : t.hist = s.hist) : s.WritesOwn t := fun _ _ he => by
  simp [hh] at he

theorem writesOwn_event {e : Event} (hh : t.hist = s.hist ++ [e]) (he : ∀ off v, e = .wr32 off v → BlockWrites s off v) :
    s.WritesOwn t := fun off v h =>
  he off v (by simpa [hh] using h)

/-- A step of one read or exchange writes nothing. -/
theorem writesOwn_other {e : Event} (hh : t.hist = s.hist ++ [e]) (he : ∀ off v, e ≠ .wr32 off v) : s.WritesOwn t :=
  writesOwn_event hh fun off v h => absurd h (he off v)

theorem writesOwn_write {off v : U32} (hh : t.hist = s.hist ++ [.wr32 off v]) (hw : BlockWrites s off v) : s.WritesOwn t :=
  writesOwn_event hh fun _ _ h => by
    obtain ⟨rfl, rfl⟩ := Event.wr32.inj h
    exact hw

theorem twSelectWord_of_pinOk {pin : U8} (h : twPinOk pin = true) :
    twSelectWord pin = 2 ∨ twSelectWord pin = 3 ∨ twSelectWord pin = 4 ∨ twSelectWord pin = 5 ∨ twSelectWord pin = 6 := by
  obtain ⟨h2, h6⟩ := twPinOk_iff.mp h
  simp only [twSelectWord]
  bv_omega

theorem auxStart_auxSize (op : AuxOp) : auxStart c (auxSize op) = auxStart c 5 ∨ auxStart c (auxSize op) = auxStart c 4 := by
  cases op with
  | readByte => exact .inr rfl
  | _ => exact .inl rfl

/-- A step that writes to a register of pin `x[PIN]` writes one of R112's words if the word is one of those of that pin. -/
theorem withAuxPin_writesOwn {k : AuxOffsets → State} (hs : s.withAuxPin k = .next t)
    (hk : ∀ a ∈ s.cfg.auxPins.toList, s.WritesOwn (k a)) : s.WritesOwn t := by
  obtain ⟨a, ha, rfl⟩ := State.withAuxPin_next.mp hs
  exact hk a (Vector.mem_toList_iff.mpr (Vector.mem_of_getElem? ha))

/-- The words for an auxiliary pin. -/
theorem blockWrites_aux {off v : U32} {a : AuxOffsets} (ha : a ∈ s.cfg.auxPins.toList)
    (hw : (off = a.data1 ∧ ∃ op, v = auxHeader s.cfg op (zext 16 s.cfg.periphAddr)) ∨ (off = a.data2 ∧ v = 0) ∨
      (off = a.ctl ∧ (v = auxStart s.cfg 5 ∨ v = auxStart s.cfg 4 ∨ v = auxClear s.auxSt))) : BlockWrites s off v :=
  .inr (.inr (.inr (.inl ⟨a, ha, hw⟩)))

theorem loadHeader_writesOwn {op : AuxOp} (hs : loadHeader op (zext 16 s.cfg.periphAddr) s = .next t) : s.WritesOwn t :=
  withAuxPin_writesOwn hs fun _ ha => writesOwn_write rfl (blockWrites_aux ha (.inl ⟨rfl, op, rfl⟩))

theorem phaseAxLoadHdr_writesOwn (hs : phaseAxLoadHdr s = .next t) : s.WritesOwn t := by
  unfold phaseAxLoadHdr at hs
  split at hs <;> exact loadHeader_writesOwn hs

theorem phaseAxLoadData_writesOwn (hs : phaseAxLoadData s = .next t) : s.WritesOwn t :=
  withAuxPin_writesOwn hs fun _ ha => writesOwn_write rfl (blockWrites_aux ha (.inr (.inl ⟨rfl, rfl⟩)))

theorem phaseAxStart_writesOwn (hs : phaseAxStart s = .next t) : s.WritesOwn t :=
  withAuxPin_writesOwn hs fun _ ha => writesOwn_write rfl <| blockWrites_aux ha <| .inr <| .inr
    ⟨rfl, (auxStart_auxSize s.auxOp).imp_right .inl⟩

theorem phaseAxClear_writesOwn (hs : phaseAxClear s = .next t) : s.WritesOwn t :=
  withAuxPin_writesOwn hs fun _ ha => writesOwn_write rfl (blockWrites_aux ha (.inr (.inr ⟨rfl, .inr (.inr rfl)⟩)))

theorem phaseAxFetch_writesOwn (hs : phaseAxFetch s = .next t) : s.WritesOwn t := by
  unfold phaseAxFetch at hs
  split at hs
  · exact withAuxPin_writesOwn hs fun _ _ => writesOwn_other rfl nofun
  · nomatch hs

theorem phaseAxAfter_hist : (phaseAxAfter s).hist = s.hist := by
  unfold phaseAxAfter
  split
  · rfl
  · split
    · exact attemptEnd_hist _
    · rfl
  · rfl

theorem phaseTwSel_writesOwn (h : twPinOk s.pin = true) : s.WritesOwn (phaseTwSel s) :=
  writesOwn_write rfl (.inl ⟨rfl, twSelectWord_of_pinOk h⟩)

theorem phaseTwWaitIdle_writesOwn : s.WritesOwn (phaseTwWaitIdle s) := by
  unfold phaseTwWaitIdle
  split
  · exact writesOwn_other (attemptEnd_hist _) nofun
  · exact writesOwn_other rfl nofun
  · exact writesOwn_other rfl nofun

theorem phaseTwWaitIdx_writesOwn : s.WritesOwn (phaseTwWaitIdx s) := by
  unfold phaseTwWaitIdx
  split <;> exact writesOwn_other rfl nofun

theorem phaseTwWaitWord_writesOwn : s.WritesOwn (phaseTwWaitWord s) := by
  unfold phaseTwWaitWord
  split <;> exact writesOwn_other rfl nofun

theorem phaseTwRdWord_writesOwn (hs : phaseTwRdWord s = .next t) : s.WritesOwn t := by
  unfold phaseTwRdWord at hs
  split at hs
  · obtain rfl := Host.Outcome.next.inj hs
    exact writesOwn_other rfl nofun
  · nomatch hs

theorem phaseTwWaitStop_writesOwn : s.WritesOwn (phaseTwWaitStop s) := by
  unfold phaseTwWaitStop
  split <;> exact writesOwn_other rfl nofun

theorem phaseAqNextTw_hist : (phaseAqNextTw s).hist = s.hist := by
  unfold phaseAqNextTw
  split <;> rfl

theorem phaseAqNextAux_hist : (phaseAqNextAux s).hist = s.hist := by
  unfold phaseAqNextAux
  split <;> rfl

theorem phaseAqDone_hist : (phaseAqDone s).hist = s.hist := by
  unfold phaseAqDone
  split <;> rfl

theorem phaseApPublish_writesOwn : s.WritesOwn (phaseApPublish s) := by
  unfold phaseApPublish
  split
  · exact writesOwn_other rfl nofun
  · split <;> exact writesOwn_other rfl nofun
  · exact writesOwn_other rfl nofun

theorem phaseApGrow_writesOwn : s.WritesOwn (phaseApGrow s) := by
  unfold phaseApGrow
  split <;> exact writesOwn_other rfl nofun

/-- The block's own step, phase by phase; the phases left to the end write one pipe or plane register. -/
theorem blockStep_writesOwn (h : s.Inv) (hne : s.pc ≠ .ptWr32) (hs : blockStep s = .next t) : s.WritesOwn t := by
  cases hp : s.pc <;> rw [blockStep, hp] at hs
  case ptWr32 => exact absurd hp hne
  case twRdWord => exact phaseTwRdWord_writesOwn hs
  case axLoadHdr => exact phaseAxLoadHdr_writesOwn hs
  case axLoadData => exact phaseAxLoadData_writesOwn hs
  case axStart => exact phaseAxStart_writesOwn hs
  case axPoll => exact withAuxPin_writesOwn hs fun _ _ => writesOwn_other rfl nofun
  case axClear => exact phaseAxClear_writesOwn hs
  case axFetch => exact phaseAxFetch_writesOwn hs
  all_goals obtain rfl := Host.Outcome.next.inj hs
  case idle | axBegin | aqFail | dcRun | mqRun => exact writesOwn_quiet rfl
  case ptRd32 | ptRd64 | apConfRd | apConfPoll => exact writesOwn_other rfl nofun
  case twSel => exact phaseTwSel_writesOwn (h.twPins (.inl (by rw [hp]; rfl)))
  case twWaitIdle => exact phaseTwWaitIdle_writesOwn
  case twIdxData => exact writesOwn_write rfl (.inr (.inl ⟨rfl, rfl⟩))
  case twIdxCmd => exact writesOwn_write rfl (.inr (.inr (.inl ⟨rfl, .inl rfl⟩)))
  case twWaitIdx => exact phaseTwWaitIdx_writesOwn
  case twRdCmd => exact writesOwn_write rfl (.inr (.inr (.inl ⟨rfl, .inr rfl⟩)))
  case twWaitWord => exact phaseTwWaitWord_writesOwn
  case twWaitStop => exact phaseTwWaitStop_writesOwn
  case twCheck | axCheck => exact writesOwn_quiet (attemptEnd_hist _)
  case axAfter => exact writesOwn_quiet phaseAxAfter_hist
  case aqNextTw => exact writesOwn_quiet phaseAqNextTw_hist
  case aqNextAux => exact writesOwn_quiet phaseAqNextAux_hist
  case aqDone => exact writesOwn_quiet phaseAqDone_hist
  case apPublish => exact phaseApPublish_writesOwn
  case apGrow => exact phaseApGrow_writesOwn
  all_goals exact writesOwn_write rfl (by simp [BlockWrites])

/-- Settles O56: of the host's moves, only those that leave the step to the block can write. -/
theorem blockWritesOnlyItsOwnWords : Obligations.BlockWritesOnlyItsOwnWords := by
  intro s t off v h hs hwrite hne
  suffices hown : s.WritesOwn t from hown off v hwrite
  obtain ⟨-, hcases⟩ := step_next hs
  obtain ⟨-, hb⟩ | ⟨rest, -, hb⟩ | ⟨rest, -, -, hb⟩ | ⟨rest, -, -, rfl⟩ | ⟨cw, a0, a1, rest, -, hc⟩ | ⟨rest, -, rfl⟩ |
    ⟨reg, rest, -, -, rfl⟩ := hcases
  · exact blockStep_writesOwn h hne hb
  · exact blockStep_writesOwn (s := { s with hostIn := rest }) (h.withHostIn rest) hne hb
  · exact blockStep_writesOwn h hne hb
  · exact writesOwn_quiet rfl
  · exact writesOwn_quiet (commandIssue_hist (s := { s with hostIn := rest }) hc)
  · cases hkept : s.cfg.histKept <;> simp [hkept] at hwrite
  · exact writesOwn_quiet rfl

end Sys2Proof.Machine
end

section
/-! PROOFS. The family 40_register_port.md: each `PORT_` command from issue to end (R120 to R123).

A free block accepts a `PORT_` command whose operands pass both checks. With no host move waiting its next step is that of the
command's one phase, and each phase has one rule that gives its whole next state. -/

namespace Sys2Proof.Machine

variable {s : State} {a0 a1 : U64}

/-! ## Issue -/

/-- A free block accepts a `PORT_` command whose operands pass both checks (R120). -/
theorem issuePort_accepts {op : U8} {ok al : Bool} {p : Phase} (hfree : s.busy = false) (hok : ok = true) (hal : al = true) :
    issuePort op ok al a0 a1 p s = .next (s.accept op 0 a0 a1 p) := by
  rw [issuePort, State.unlessBusy_of_free hfree, if_pos hok, if_pos hal]

theorem execPortRd32_accepts (hfree : s.busy = false) (h0 : a0.toNat < 2 ^ 32) (hal : a0.toNat % 4 = 0) :
    exec (.portRd32 a0 a1) s = .next (s.accept Op.portRd32 0 a0 a1 .ptRd32) :=
  issuePort_accepts hfree (highHalfZero_iff.mpr h0) ((offsetAligned_iff h0).mpr hal)

theorem execPortWr32_accepts (hfree : s.busy = false) (h0 : a0.toNat < 2 ^ 32) (h1 : a1.toNat < 2 ^ 32)
    (hal : a0.toNat % 4 = 0) : exec (.portWr32 a0 a1) s = .next (s.accept Op.portWr32 0 a0 a1 .ptWr32) :=
  issuePort_accepts hfree (Bool.and_eq_true_iff.mpr ⟨highHalfZero_iff.mpr h0, highHalfZero_iff.mpr h1⟩)
    ((offsetAligned_iff h0).mpr hal)

theorem execPortRd64_accepts (hfree : s.busy = false) (h0 : a0.toNat < 2 ^ 32) (hal : a0.toNat % 8 = 0) :
    exec (.portRd64 a0 a1) s = .next (s.accept Op.portRd64 0 a0 a1 .ptRd64) :=
  issuePort_accepts hfree (highHalfZero_iff.mpr h0) ((offsetAligned_iff h0).mpr hal)

/-- Acceptance moves neither the configuration nor the host's moves: where none waits, the block takes the next step. -/
theorem step_accept {op pin : U8} {p : Phase} (hwf : s.cfg.wf = true) (hh : s.hostIn = []) :
    step (s.accept op pin a0 a1 p) = blockStep (s.accept op pin a0 a1 p) :=
  step_block hwf hh

/-! ## The phases -/

/-- What a 64-bit read yields where the device script has an answer. -/
theorem State.read64Value_of_script {d : U64} {ds : List U64} (h : s.devIn = d :: ds) (off : U32) : s.read64Value off = d := by
  rw [State.read64Value, State.deviceAnswer, h]

/-- The whole of phase `PT_RD32` (R121). -/
theorem blockStep_ptRd32 (hp : s.pc = .ptRd32) :
    blockStep s = .next ({ s.read32 (lowHalf s.arg0) with rdata := zext 64 (s.read32Value (lowHalf s.arg0)) }.finish .ok
      (s.read32Value (lowHalf s.arg0))) := by
  rw [blockStep, hp]; rfl

/-- The whole of phase `PT_WR32` (R122). -/
theorem blockStep_ptWr32 (hp : s.pc = .ptWr32) :
    blockStep s = .next ((s.write32 (lowHalf s.arg0) (lowHalf s.arg1)).finish .ok 0) := by
  rw [blockStep, hp]; rfl

/-- The whole of phase `PT_RD64` (R123). -/
theorem blockStep_ptRd64 (hp : s.pc = .ptRd64) :
    blockStep s = .next ({ s.read64 (lowHalf s.arg0) with rdata := s.read64Value (lowHalf s.arg0) }.finish .ok
      (lowHalf (s.read64Value (lowHalf s.arg0)))) := by
  rw [blockStep, hp]; rfl

/-! ## From issue to end -/

/-- Settles O15: the command is accepted, and its step is that of phase `PT_RD32`, which reads at the latched offset. -/
theorem portRd32ReadsOneWordIntoRdata : Obligations.PortRd32ReadsOneWordIntoRdata := by
  intro s a0 a1 hwf hh hfree h0 hal
  refine ⟨decodeCommand_commandWord (op := Op.portRd32) (pin := 0) rfl rfl, s.accept Op.portRd32 0 a0 a1 .ptRd32,
    s.read32Value (lowHalf a0), execPortRd32_accepts hfree h0 hal, rfl, ?step,
    fun _ _ hd => State.read32Value_of_script hd _⟩
  case step => exact (step_accept hwf hh).trans (blockStep_ptRd32 rfl)

/-- Settles O16: the command is accepted, and its step is that of phase `PT_WR32`, which writes the latched operands. -/
theorem portWr32WritesOneWord : Obligations.PortWr32WritesOneWord := by
  intro s a0 a1 hwf hh hfree h0 h1 hal
  refine ⟨decodeCommand_commandWord (op := Op.portWr32) (pin := 0) rfl rfl, s.accept Op.portWr32 0 a0 a1 .ptWr32,
    execPortWr32_accepts hfree h0 h1 hal, rfl, ?step⟩
  case step => exact (step_accept hwf hh).trans (blockStep_ptWr32 rfl)

/-- Settles O17: the command is accepted, and its step is that of phase `PT_RD64`, which reads at the latched offset. -/
theorem portRd64ReadsOneDoubleWordIntoRdata : Obligations.PortRd64ReadsOneDoubleWordIntoRdata := by
  intro s a0 a1 hwf hh hfree h0 hal
  refine ⟨decodeCommand_commandWord (op := Op.portRd64) (pin := 0) rfl rfl, s.accept Op.portRd64 0 a0 a1 .ptRd64,
    s.read64Value (lowHalf a0), execPortRd64_accepts hfree h0 hal, rfl, ?step,
    fun _ _ hd => State.read64Value_of_script hd _⟩
  case step => exact (step_accept hwf hh).trans (blockStep_ptRd64 rfl)

end Sys2Proof.Machine
end

section
/-! PROOFS. The family 41_two_wire.md: the steps of a two-wire attempt with their whole states (R133 to R142), waits without a bound
(R145), and `TW_READ` from issue to end (R143, R146).

Each phase has one rule that gives its whole next state. The read of the block is an induction over its words, each of which takes
two steps, and the attempt is three runs put one after the other: the start, the 32 words, the last wait. -/

namespace Sys2Proof.Machine

variable {s t : State} {v : U32} {ds : List U64}

/-! ## Runs -/

theorem run_succ {n : Nat} (h : step s = .next t) : run (n + 1) s = run n t := by
  simp only [run, h]

/-- Where the host makes no move, a run takes the block's step first. -/
theorem run_succ_block {n : Nat} (hwf : s.cfg.wf = true) (hh : s.hostIn = []) (hb : blockStep s = .next t) :
    run (n + 1) s = run n t :=
  run_succ ((step_block hwf hh).trans hb)

/-- A run goes on from where a shorter one ends. -/
theorem run_add {m : Nat} (n : Nat) (h : run m s = .next t) : run (m + n) s = run n t := by
  induction m generalizing s with
  | zero =>
    obtain rfl := Host.Outcome.next.inj h
    rw [Nat.zero_add]
  | succ m ih =>
    rw [Nat.add_right_comm]
    cases hs : step s with
    | next s' => exact (run_succ hs).trans (ih ((run_succ hs).symm.trans h))
    | fault f => simp [run, hs] at h
    | refused r => simp [run, hs] at h

/-! ## Reads the device script answers -/

theorem zext_zext_answer (v : U32) : zext 32 (zext 64 v) = v := BitVec.setWidth_setWidth_of_le v (by decide)

theorem answers_append (vs ws : List U32) : answers (vs ++ ws) = answers vs ++ answers ws := List.map_append

/-- The state after a 32-bit read at `off` that the device script answered with `v`: the answers `ds` are left. -/
def State.heard (s : State) (off v : U32) (ds : List U64) : State :=
  { s with hist := s.hist ++ [.rd32 off v], devIn := ds, freeCount := s.freeCount + 1 }

theorem State.read32_of_script (h : s.devIn = zext 64 v :: ds) (off : U32) : s.read32 off = s.heard off v ds := by
  rw [State.read32, State.read32Value_of_script h, zext_zext_answer, State.deviceAnswered, h]
  rfl

theorem State.twPoll_of_script (h : s.devIn = zext 64 v :: ds) : s.twPoll = twClassify s.cfg v := by
  rw [State.twPoll, State.read32Value_of_script h, zext_zext_answer]

/-! ## The phases that write (R133, R135, R136, R138) -/

/-- The whole of phase `TW_SEL` (R133). -/
theorem blockStep_twSel (hp : s.pc = .twSel) :
    blockStep s = .next { s with
      idx := 0, twShort := false, pc := .twWaitIdle, hist := s.hist ++ [.wr32 s.cfg.twSelectOff (zext 32 s.pin)] } := by
  rw [blockStep, hp]; rfl

/-- The whole of phase `TW_IDX_DATA` (R135). -/
theorem blockStep_twIdxData (hp : s.pc = .twIdxData) :
    blockStep s = .next { s with pc := .twIdxCmd, hist := s.hist ++ [.wr32 s.cfg.twDataOff 0] } := by
  rw [blockStep, hp]; rfl

/-- Phase `TW_IDX_CMD` runs the index-write cycle for `PERIPH_ADDR` (R136). -/
theorem blockStep_twIdxCmd (hp : s.pc = .twIdxCmd) : blockStep s = exec (.twIndexWriteCycle s.cfg.periphAddr) s := by
  rw [blockStep, hp]; rfl

/-- Phase `TW_RD_CMD` runs the read cycle for `PERIPH_ADDR` (R138). -/
theorem blockStep_twRdCmd (hp : s.pc = .twRdCmd) : blockStep s = exec (.twReadCycle s.cfg.periphAddr) s := by
  rw [blockStep, hp]; rfl

theorem exec_twIndexWriteCycle (a : BitVec 7) :
    exec (.twIndexWriteCycle a) s = .next { s with
      pc := .twWaitIdx, hist := s.hist ++ [.wr32 s.cfg.twCommandOff (twCmd s.cfg a 1 s.cfg.twCmdDirWrite)] } :=
  rfl

theorem exec_twReadCycle (a : BitVec 7) :
    exec (.twReadCycle a) s = .next { s with
      pc := .twWaitWord, hist := s.hist ++ [.wr32 s.cfg.twCommandOff (twCmd s.cfg a 128 s.cfg.twCmdDirRead)] } :=
  rfl

/-- Settles O18: the words are `TwCmd` with the byte counts 1 and 128 (R86). -/
theorem twoWireCyclesWriteTheCommandRegister : Obligations.TwoWireCyclesWriteTheCommandRegister :=
  fun _ a => ⟨exec_twIndexWriteCycle a, exec_twReadCycle a, blockStep_twIdxCmd, blockStep_twRdCmd⟩

/-- Settles O19: the statement is the rules of the two phases. -/
theorem twoWireAttemptSelectsThePinAndGivesIndexZero : Obligations.TwoWireAttemptSelectsThePinAndGivesIndexZero :=
  fun _ => ⟨blockStep_twSel, blockStep_twIdxData⟩

/-! ## The waits (R131, R132, R134, R137, R139, R141) -/

theorem twClassify_busErr {c : Cfg} (hb : v &&& c.twStBusErr ≠ 0) : twClassify c v = .busErr :=
  if_pos hb

theorem twClassify_ready {c : Cfg} (hb : v &&& c.twStBusErr = 0) (hr : v &&& c.twStHwRdy ≠ 0) : twClassify c v = .ready :=
  (if_neg (not_not.mpr hb)).trans (if_pos hr)

theorem twClassify_wait {c : Cfg} (hb : v &&& c.twStBusErr = 0) (hr : v &&& c.twStHwRdy = 0) : twClassify c v = .wait :=
  (if_neg (not_not.mpr hb)).trans (if_neg (not_not.mpr hr))

theorem Phase.twWait_iff {p : Phase} :
    p.twWait = true ↔ p = .twWaitIdle ∨ p = .twWaitIdx ∨ p = .twWaitWord ∨ p = .twWaitStop := by
  cases p <;> simp [Phase.twWait]

/-- Where a two-wire wait goes by what its poll says, for each of the four phases of a wait; `r` is the state after the read. -/
def State.afterPoll (r : State) : TwPoll → Phase → State
  | .wait,   _           => r
  | .ready,  .twWaitIdle => r.goto .twIdxData
  | .ready,  .twWaitIdx  => r.goto .twRdCmd
  | .ready,  .twWaitWord => r.goto .twRdWord
  | .ready,  _           => r.goto .twCheck
  | .busErr, .twWaitIdle => attemptEnd .twoWire .unavailable r
  | .busErr, .twWaitIdx  => r.goto .twRdCmd
  | .busErr, .twWaitWord => { r with twShort := true }.goto .twWaitStop
  | .busErr, _           => r.goto .twCheck

theorem State.goto_self {p : Phase} (hp : s.pc = p) : s.goto p = s := by
  subst hp; rfl

/-- The whole of a two-wire wait: one read of *status*, and what its value says (R134, R137, R139, R141). -/
theorem blockStep_twWait (hw : s.pc.twWait = true) : blockStep s = .next (s.twPolled.afterPoll s.twPoll s.pc) := by
  have hstay {p : Phase} (hp : s.pc = p) : s.twPolled.goto p = s.twPolled := State.goto_self hp
  obtain hp | hp | hp | hp := Phase.twWait_iff.mp hw
  all_goals
    rw [blockStep, hp]
    simp only [phaseTwWaitIdle, phaseTwWaitIdx, phaseTwWaitWord, phaseTwWaitStop]
    cases s.twPoll with
    | wait => exact congrArg _ (hstay hp)
    | ready => rfl
    | busErr => rfl

/-- A two-wire wait whose poll the device script answers. -/
theorem blockStep_twWait_of_script {o : TwPoll} (hw : s.pc.twWait = true) (h : s.devIn = zext 64 v :: ds)
    (ho : twClassify s.cfg v = o) : blockStep s = .next ((s.heard s.cfg.twStatusOff v ds).afterPoll o s.pc) := by
  rw [blockStep_twWait hw, State.twPoll_of_script h, ho, State.twPolled, State.read32_of_script h]

/-- Settles O20: the value read is the device's answer; the clauses are those of `State.afterPoll`. -/
theorem twoWireWaitsEndOnTheirFlags : Obligations.TwoWireWaitsEndOnTheirFlags := by
  intro s
  refine ⟨s.read32Value s.cfg.twStatusOff, fun r hr => ?_⟩
  obtain rfl : r = s.twPolled := hr
  have hwait {p : Phase} {o : TwPoll} (hp : s.pc = p) (hw : p.twWait = true) (ho : s.twPoll = o) :
      blockStep s = .next (s.twPolled.afterPoll o p) := by
    subst hp ho
    exact blockStep_twWait hw
  refine ⟨fun _ _ h => State.read32Value_of_script h _, fun hw hb hr => ?neither, fun hb hr => ?ready, fun hb => ?busErr⟩
  case neither => exact hwait rfl hw (twClassify_wait hb hr)
  case ready =>
    have ho : s.twPoll = .ready := twClassify_ready hb hr
    exact ⟨fun hp => hwait hp rfl ho, fun hp => hwait hp rfl ho, fun hp => hwait hp rfl ho, fun hp => hwait hp rfl ho⟩
  case busErr =>
    have ho : s.twPoll = .busErr := twClassify_busErr hb
    exact ⟨fun hp => hwait hp rfl ho, fun hp => hwait hp rfl ho, fun hp => hwait hp rfl ho, fun hp => hwait hp rfl ho⟩

/-! ## Waits without a bound (R145) -/

/-- Settles O25, by induction on the values the device answers. -/
theorem twoWireWaitHasNoBound : Obligations.TwoWireWaitHasNoBound := by
  intro s sts rest hwf hh hw hsts hd
  induction sts generalizing s with
  | nil =>
    obtain rfl : s.devIn = rest := hd
    simp [run, reads]
  | cons v vs ih =>
    obtain ⟨hv, hvs⟩ := List.forall_mem_cons.mp hsts
    have hstep : blockStep s = .next (s.heard s.cfg.twStatusOff v (answers vs ++ rest)) :=
      blockStep_twWait_of_script hw hd hv
    rw [List.length_cons, run_succ_block hwf hh hstep, ih (s.heard _ _ _) hwf hh hw hvs rfl]
    simp [State.heard, reads, Nat.add_assoc, Nat.add_comm 1]

/-! ## The end of an attempt (R142, R162) -/

/-- `Magic` is a test of the first eight bytes. -/
theorem magic_iff {b : Vector U8 128} :
    magic b = true ↔ b.toList.take 8 = [0x00, 0xFF, 0xFF, 0xFF, 0xFF, 0xFF, 0xFF, 0x00] := by
  have htake : b.toList.take 8 = [b[0], b[1], b[2], b[3], b[4], b[5], b[6], b[7]] := by
    refine List.ext_getElem (by simp) fun i h _ => ?_
    have hi : i < 8 := by simpa using h
    interval_cases i <;> simp
  simp [htake, magic, and_assoc]

theorem twOutcome_of_short (h : s.twShort = true ∨ s.idx.toNat < 128) : twOutcome s = .busError :=
  if_pos h

theorem twOutcome_of_complete (hs : s.twShort = false) (hi : 128 ≤ s.idx.toNat) :
    twOutcome s = if magic s.edid then .found else .badHeader :=
  if_neg (by simp [hs, hi])

theorem blockStep_twCheck (hp : s.pc = .twCheck) : blockStep s = .next (attemptEnd .twoWire (twOutcome s) s) := by
  rw [blockStep, hp]; rfl

theorem blockStep_axCheck (hp : s.pc = .axCheck) :
    blockStep s = .next (attemptEnd .aux (if magic s.edid then .found else .badHeader) s) := by
  rw [blockStep, hp]; rfl

/-- Settles O22: a complete block is judged by `Magic`, which tests the first eight bytes. -/
theorem finishedAttemptIsAcceptedByItsHeaderAlone : Obligations.FinishedAttemptIsAcceptedByItsHeaderAlone := by
  intro s header
  have hm : magic s.edid = true ↔ header := magic_iff
  refine ⟨fun hp h => ?_, fun hp hs hi h => ?_, fun hp hs hi h => ?_, fun hp h => ?_, fun hp h => ?_⟩
  · rw [blockStep_twCheck hp, twOutcome_of_short h]
  · rw [blockStep_twCheck hp, twOutcome_of_complete hs hi, if_pos (hm.mpr h)]
  · rw [blockStep_twCheck hp, twOutcome_of_complete hs hi, if_neg (mt hm.mp h)]
  · rw [blockStep_axCheck hp, if_pos (hm.mpr h)]
  · rw [blockStep_axCheck hp, if_neg (mt hm.mp h)]

/-! ## A whole attempt on a ready device (R146) -/

/-- The accesses of the start of an attempt on pin `pin`, whose two polls read `v0` and `v1` (R133 to R138). -/
def twStartEvents (c : Cfg) (pin : U8) (v0 v1 : U32) : List Event :=
  [.wr32 c.twSelectOff (zext 32 pin), .rd32 c.twStatusOff v0, .wr32 c.twDataOff 0,
   .wr32 c.twCommandOff (twIndexWriteWord c c.periphAddr), .rd32 c.twStatusOff v1,
   .wr32 c.twCommandOff (twReadWord c c.periphAddr)]

/-- The first six steps of an attempt: the pin is selected, the index 0 written, the read started. -/
theorem run_twStart {v0 v1 : U32} (hwf : s.cfg.wf = true) (hh : s.hostIn = []) (hp : s.pc = .twSel)
    (h0 : twClassify s.cfg v0 = .ready) (h1 : twClassify s.cfg v1 = .ready) (hd : s.devIn = answers [v0, v1] ++ ds) :
    run 6 s = .next { s with
      pc := .twWaitWord, idx := 0, twShort := false, hist := s.hist ++ twStartEvents s.cfg s.pin v0 v1, devIn := ds,
      freeCount := s.freeCount + 2 } := by
  refine Eq.trans (run_succ_block hwf hh (blockStep_twSel hp)) ?_
  refine Eq.trans (run_succ_block hwf hh (blockStep_twWait_of_script rfl hd h0)) ?_
  refine Eq.trans (run_succ_block hwf hh (blockStep_twIdxData rfl)) ?_
  refine Eq.trans (run_succ_block hwf hh (blockStep_twIdxCmd rfl)) ?_
  refine Eq.trans (run_succ_block hwf hh (blockStep_twWait_of_script rfl rfl h1)) ?_
  refine Eq.trans (run_succ_block hwf hh (blockStep_twRdCmd rfl)) ?_
  simp [run, State.heard, State.afterPoll, State.goto, twStartEvents]

/-- Phase `TW_RD_WORD` where the device script has the word (R140). -/
theorem blockStep_twRdWord_of_script {w : U32} (hp : s.pc = .twRdWord) (hi : s.idx.toNat + 4 ≤ 128)
    (hd : s.devIn = zext 64 w :: ds) :
    blockStep s = .next ({ s.heard s.cfg.twDataOff w ds with edid := storeWord s.edid s.idx.toNat w, idx := s.idx + 4 }.goto
      (if s.idx.toNat + 4 ≥ 128 then .twWaitStop else .twWaitWord)) := by
  rw [blockStep_twRdWord hp hi, State.read32_of_script hd, State.read32Value_of_script hd, zext_zext_answer]

/-- One word of the read: a ready poll and the word stored at `IDX` (R139, R140). -/
theorem run_twWord {w : U32} (hwf : s.cfg.wf = true) (hh : s.hostIn = []) (hp : s.pc = .twWaitWord)
    (hi : s.idx.toNat + 4 ≤ 128) (hv : twClassify s.cfg v = .ready) (hd : s.devIn = answers [v, w] ++ ds) :
    run 2 s = .next { s with
      pc := if s.idx.toNat + 4 ≥ 128 then .twWaitStop else .twWaitWord, edid := storeWord s.edid s.idx.toNat w,
      idx := s.idx + 4, hist := s.hist ++ [.rd32 s.cfg.twStatusOff v, .rd32 s.cfg.twDataOff w], devIn := ds,
      freeCount := s.freeCount + 2 } := by
  have hpoll : blockStep s = .next ((s.heard s.cfg.twStatusOff v (zext 64 w :: ds)).goto .twRdWord) := by
    rw [blockStep_twWait_of_script (by rw [hp]; rfl) hd hv, hp]
    rfl
  refine Eq.trans (run_succ_block hwf hh hpoll) ?_
  refine Eq.trans (run_succ_block hwf hh (blockStep_twRdWord_of_script rfl hi rfl)) ?_
  simp [run, State.heard, State.goto]

/-- The answers of `n` words of the read, each after a poll. -/
def twWordAnswers (st w : Nat → U32) (n : Nat) : List U32 := (List.range n).flatMap fun j => [st j, w j]

/-- The accesses of `n` words of the read. -/
def twWordEvents (c : Cfg) (st w : Nat → U32) (n : Nat) : List Event :=
  (List.range n).flatMap fun j => [.rd32 c.twStatusOff (st j), .rd32 c.twDataOff (w j)]

theorem twWordAnswers_succ (st w : Nat → U32) (n : Nat) :
    twWordAnswers st w (n + 1) = twWordAnswers st w n ++ [st n, w n] := by
  simp [twWordAnswers, List.range_succ]

theorem twWordEvents_succ (c : Cfg) (st w : Nat → U32) (n : Nat) :
    twWordEvents c st w (n + 1) = twWordEvents c st w n ++ [.rd32 c.twStatusOff (st n), .rd32 c.twDataOff (w n)] := by
  simp [twWordEvents, List.range_succ]

/-- The buffer after the first `n` words of `w` have been stored from its start. -/
def storeWords (b : Vector U8 128) (w : Nat → U32) : Nat → Vector U8 128
  | 0     => b
  | n + 1 => storeWord (storeWords b w n) (4 * n) (w n)

/-- The state after `n` words of the read, `ds` being the answers that are left. -/
def State.wordsRead (s : State) (st w : Nat → U32) (ds : List U64) (n : Nat) : State :=
  { s with
    pc := if 4 * n ≥ 128 then .twWaitStop else .twWaitWord
    edid := storeWords s.edid w n
    idx := BitVec.ofNat 8 (4 * n)
    hist := s.hist ++ twWordEvents s.cfg st w n
    devIn := ds
    freeCount := s.freeCount + 2 * n }

/-- By induction on the number of words: each is stored behind those before it. -/
theorem run_twWords {st w : Nat → U32} {n : Nat} (hwf : s.cfg.wf = true) (hh : s.hostIn = []) (hp : s.pc = .twWaitWord)
    (hidx : s.idx = 0) (hst : ∀ i, twClassify s.cfg (st i) = .ready) (hn : n ≤ 32)
    (hd : s.devIn = answers (twWordAnswers st w n) ++ ds) : run (2 * n) s = .next (s.wordsRead st w ds n) := by
  induction n generalizing ds with
  | zero =>
    obtain rfl : s.devIn = ds := hd
    cases s
    simp_all [run, State.wordsRead, storeWords, twWordEvents]
  | succ n ih =>
    rw [twWordAnswers_succ, answers_append, List.append_assoc] at hd
    have hcount : (BitVec.ofNat 8 (4 * n)).toNat = 4 * n := by
      rw [BitVec.toNat_ofNat]; omega
    have hroom : (BitVec.ofNat 8 (4 * n)).toNat + 4 ≤ 128 := by omega
    have hpc : (s.wordsRead st w (answers [st n, w n] ++ ds) n).pc = .twWaitWord := if_neg (by omega)
    rw [Nat.mul_succ, run_add 2 (ih (by omega) hd)]
    refine Eq.trans (run_twWord hwf hh hpc hroom (hst n) rfl) ?_
    simp [State.wordsRead, hcount, storeWords, twWordEvents_succ, Nat.mul_succ, BitVec.ofNat_add, Nat.add_assoc]

/-- The words stored are held, each at its place. -/
theorem storeWords_bytes (b : Vector U8 128) (w : Nat → U32) {n : Nat} (hn : n ≤ 32) : ∀ j < n,
    (storeWords b w n)[4 * j]? = some (bits 7 0 (w j)) ∧ (storeWords b w n)[4 * j + 1]? = some (bits 15 8 (w j)) ∧
    (storeWords b w n)[4 * j + 2]? = some (bits 23 16 (w j)) ∧ (storeWords b w n)[4 * j + 3]? = some (bits 31 24 (w j)) := by
  induction n with
  | zero => exact nofun
  | succ n ih =>
    intro j hj
    have hroom : 4 * n + 4 ≤ 128 := by omega
    obtain hlt | rfl := Nat.lt_succ_iff_lt_or_eq.mp hj
    · obtain ⟨h0, hrest⟩ := ih (by omega) j hlt
      have hframe {k : Nat} (hk : k < 4) : (storeWords b w (n + 1))[4 * j + k]? = (storeWords b w n)[4 * j + k]? :=
        storeWord_frame _ _ hroom (.inl (by omega))
      rw [hframe (by decide : 1 < 4), hframe (by decide : 2 < 4), hframe (by decide : 3 < 4)]
      exact ⟨(hframe (by decide : 0 < 4)).trans h0, hrest⟩
    · exact storeWord_bytes _ _ hroom

theorem holdsWords_storeWords (b : Vector U8 128) (w : Nat → U32) : holdsWords (storeWords b w 32) w :=
  storeWords_bytes b w le_rfl

/-- The answers of a ready device to a whole attempt, in the order of its reads. -/
def twAttemptAnswers (st w : Nat → U32) : List U32 :=
  [st 0, st 1] ++ twWordAnswers (fun j => st (j + 2)) w 32 ++ [st 34]

/-- The 71 accesses of an attempt on a ready device (R146). -/
def twAttemptEvents (c : Cfg) (pin : U8) (st w : Nat → U32) : List Event :=
  twStartEvents c pin (st 0) (st 1) ++ twWordEvents c (fun j => st (j + 2)) w 32 ++ [.rd32 c.twStatusOff (st 34)]

/-- The state in which the header of the block of an attempt is tested, `ds` being the answers that are left. -/
def State.attemptRead (s : State) (st w : Nat → U32) (ds : List U64) : State :=
  { s with
    pc := .twCheck
    idx := 128
    twShort := false
    edid := storeWords s.edid w 32
    hist := s.hist ++ twAttemptEvents s.cfg s.pin st w
    devIn := ds
    freeCount := s.freeCount + 67 }

/-- An attempt on a ready device reads the whole block, whatever command is running. -/
theorem run_twAttempt {st w : Nat → U32} (hwf : s.cfg.wf = true) (hh : s.hostIn = []) (hp : s.pc = .twSel)
    (hst : ∀ i, twClassify s.cfg (st i) = .ready) (hd : s.devIn = answers (twAttemptAnswers st w) ++ ds) :
    run 71 s = .next (s.attemptRead st w ds) := by
  rw [twAttemptAnswers, answers_append, answers_append, List.append_assoc, List.append_assoc] at hd
  refine Eq.trans (run_add 65 (run_twStart hwf hh hp (hst 0) (hst 1) hd)) ?_
  refine Eq.trans (run_add (m := 2 * 32) 1 (run_twWords hwf hh rfl rfl (fun j => hst (j + 2)) le_rfl rfl)) ?_
  refine Eq.trans (run_succ_block hwf hh (blockStep_twWait_of_script rfl rfl (hst 34))) ?_
  simp [run, State.attemptRead, State.wordsRead, State.heard, State.afterPoll, State.goto, twAttemptEvents]

/-! ## `TW_READ` from issue to end (R143) -/

/-- A `TW_READ` of a ready device ends by the header of the block it has read. -/
theorem run_twRead {st w : Nat → U32} (hwf : s.cfg.wf = true) (hh : s.hostIn = []) (hp : s.pc = .twSel)
    (hop : s.cmdOp = Op.twRead) (hst : ∀ i, twClassify s.cfg (st i) = .ready)
    (hd : s.devIn = answers (twAttemptAnswers st w) ++ ds) :
    run 72 s = .next (((s.attemptRead st w ds).recordOutcome .twoWire (twOutcome (s.attemptRead st w ds))).finish
      (outcomeCode (twOutcome (s.attemptRead st w ds))) 128) := by
  refine Eq.trans (run_add 1 (run_twAttempt hwf hh hp hst hd)) ?_
  refine Eq.trans (run_succ_block hwf hh (blockStep_twCheck rfl)) ?_
  exact congrArg Host.Outcome.next (attemptEnd_single (.inl hop))

theorem twOutcome_attemptRead (st w : Nat → U32) :
    twOutcome (s.attemptRead st w ds) = if magic (storeWords s.edid w 32) then .found else .badHeader :=
  twOutcome_of_complete rfl le_rfl

/-- What a `TW_READ` of a ready device leaves. -/
theorem run_twRead_leaves {st w : Nat → U32} (hwf : s.cfg.wf = true) (hh : s.hostIn = []) (hp : s.pc = .twSel)
    (hop : s.cmdOp = Op.twRead) (hst : ∀ i, twClassify s.cfg (st i) = .ready)
    (hd : s.devIn = answers (twAttemptAnswers st w) ++ ds) :
    ∃ u, run 72 s = .next u ∧ u.busy = false ∧ u.pc = .idle ∧ u.resultInfo = 128 ∧ u.devIn = ds ∧ holdsWords u.edid w ∧
      u.hist = s.hist ++ twAttemptEvents s.cfg s.pin st w ∧
      (if magic u.edid then u.result = .ok ∧ u.edidValid = true ∧ u.foundTransport = .twoWire ∧ u.foundPin = s.pin
       else u.result = .badHeader ∧ u.edidValid = s.edidValid) := by
  have hrun := run_twRead hwf hh hp hop hst hd
  have hheld : holdsWords (storeWords s.edid w 32) w := holdsWords_storeWords s.edid w
  rw [twOutcome_attemptRead] at hrun
  split at hrun
  case isTrue hm =>
    refine ⟨_, hrun, rfl, rfl, rfl, rfl, hheld, rfl, ?_⟩
    rw [if_pos]
    exacts [⟨rfl, rfl, rfl, rfl⟩, hm]
  case isFalse hm =>
    refine ⟨_, hrun, rfl, rfl, rfl, rfl, hheld, rfl, ?_⟩
    rw [if_neg]
    exacts [⟨rfl, rfl⟩, hm]

/-- Settles O24: the command is accepted, and its run is that of an attempt on a ready device. -/
theorem twReadStoresTheBlockTheDeviceDelivers : Obligations.TwReadStoresTheBlockTheDeviceDelivers := by
  intro s pin a0 a1 st w rest hwf hh hfree hpin hst hd
  obtain ⟨h2, h6⟩ := twPinOk_iff.mp hpin
  obtain ⟨hissue, -⟩ := searchCommandsStart s a0 a1 hfree
  obtain ⟨u, hrun, hbusy, hpc, hinfo, hdev, hheld, hhist, hresult⟩ := run_twRead_leaves (s := { s with
    cmdOp := 0x10, cmdPin := pin, arg0 := a0, arg1 := a1, busy := true, edidValid := false, timingValid := false, pin := pin,
    pc := .twSel }) hwf hh rfl rfl hst hd
  refine ⟨_, u, hissue pin h2 h6, hrun, hbusy, hpc, hinfo, hdev, hheld, hhist.trans ?_, hresult⟩
  simp only [twAttemptEvents, ← List.append_assoc]
  rfl

end Sys2Proof.Machine
end

section
/-! PROOFS. The family 42_aux_channel.md: the steps of a transaction with their whole states (R152 to R157), the order of the
operations of an attempt (R159, R160), a transaction run whole (R158, R163 to R165), the bound on its polls (R156), and that
`AUX_READ` ends (R166).

Each phase has one rule that gives its whole next state where `PIN` names a pin. A transaction is three runs put one after the other:
its writes, its polls, the clearing write. What the device answers is a script in the run of a transaction, and is left open in
the bounds: there the polls are an induction on the budget that is left, and the rest of `AUX_READ` counts accesses only. -/

namespace Sys2Proof.Machine

variable {s t u : State} {a : AuxOffsets} {v last : U32} {sts : List U32} {ds : List U64}

/-! ## The phases that write (R152 to R154, R157) -/

/-- A step that needs the registers of `x[PIN]` uses those of the pin it names. -/
theorem State.withAuxPin_of_pin (ha : s.cfg.auxPins[s.pin.toNat]? = some a) (k : AuxOffsets → State) :
    s.withAuxPin k = .next (k a) := State.withAuxPin_next.mpr ⟨a, ha, rfl⟩

/-- The start of a transaction on a pin with registers, whatever the operation. -/
theorem loadHeader_of_pin (ha : s.cfg.auxPins[s.pin.toNat]? = some a) (op : AuxOp) (addr : U16) :
    loadHeader op addr s = .next { s with
      auxOp := op, pc := afterHeader op, hist := s.hist ++ [.wr32 a.data1 (auxHeader s.cfg op addr)] } :=
  State.withAuxPin_of_pin ha _

/-- Settles O26: the three operations are one start of a transaction, each with its own header. -/
theorem auxOperationsStartWithTheirHeader : Obligations.AuxOperationsStartWithTheirHeader :=
  fun _ _ addr ha => ⟨loadHeader_of_pin ha .indexWrite addr, loadHeader_of_pin ha .writeProbe addr,
    loadHeader_of_pin ha .readByte addr⟩

/-- The whole of phase `AX_LOAD_HDR` (R152). -/
theorem blockStep_axLoadHdr (ha : s.cfg.auxPins[s.pin.toNat]? = some a) (hp : s.pc = .axLoadHdr) :
    blockStep s = .next { s with
      pc := afterHeader s.auxOp
      hist := s.hist ++ [.wr32 a.data1 (auxHeader s.cfg s.auxOp (zext 16 s.cfg.periphAddr))] } := by
  have hload : blockStep s = loadHeader s.auxOp (zext 16 s.cfg.periphAddr) s := by
    simp only [blockStep, hp, phaseAxLoadHdr]
    cases s.auxOp <;> rfl
  exact hload.trans (loadHeader_of_pin ha _ _)

/-- The whole of phase `AX_LOAD_DATA` (R153). -/
theorem blockStep_axLoadData (ha : s.cfg.auxPins[s.pin.toNat]? = some a) (hp : s.pc = .axLoadData) :
    blockStep s = .next { s with pc := .axStart, hist := s.hist ++ [.wr32 a.data2 0] } := by
  rw [blockStep, hp]
  exact State.withAuxPin_of_pin ha _

/-- The whole of phase `AX_START` (R154). -/
theorem blockStep_axStart (ha : s.cfg.auxPins[s.pin.toNat]? = some a) (hp : s.pc = .axStart) :
    blockStep s = .next { s with
      polls := 0, pc := .axPoll, hist := s.hist ++ [.wr32 a.ctl (auxStart s.cfg (auxSize s.auxOp))] } := by
  rw [blockStep, hp]
  exact State.withAuxPin_of_pin ha _

/-- The whole of phase `AX_CLEAR` (R157). -/
theorem blockStep_axClear (ha : s.cfg.auxPins[s.pin.toNat]? = some a) (hp : s.pc = .axClear) :
    blockStep s = .next { s with pc := .axAfter, hist := s.hist ++ [.wr32 a.ctl (auxClear s.auxSt)] } := by
  rw [blockStep, hp]
  exact State.withAuxPin_of_pin ha _

theorem auxSize_eq (op : AuxOp) : auxSize op = if op = .readByte then 4 else 5 := by
  cases op <;> rfl

/-- Settles O27: the statement is the rules of the three phases. -/
theorem auxTransactionWrites : Obligations.AuxTransactionWrites :=
  fun s _ ha => ⟨blockStep_axLoadData ha, auxSize_eq s.auxOp ▸ blockStep_axStart ha, blockStep_axClear ha⟩

/-! ## The poll (R155) -/

theorem auxPollDone_iff {polls : U16} : auxPollDone v polls = true ↔ v.getLsbD 31 = false ∨ polls = 16384 := by
  simp [auxPollDone, auxBusy]

/-- The state after a poll at `off` that read `v`, in phase `p`: the answers `ds` are left. -/
def State.polled (s : State) (off v : U32) (ds : List U64) (p : Phase) : State :=
  { s.heard off v ds with auxSt := v, polls := s.polls + 1, pc := p }

/-- The whole of phase `AX_POLL`. -/
theorem blockStep_axPoll (ha : s.cfg.auxPins[s.pin.toNat]? = some a) (hp : s.pc = .axPoll) :
    blockStep s = .next (s.polled a.ctl (s.read32Value a.ctl) s.devIn.tail
      (if auxPollDone (s.read32Value a.ctl) (s.polls + 1) then .axClear else .axPoll)) := by
  rw [blockStep, hp]
  exact State.withAuxPin_of_pin ha _

theorem blockStep_axPoll_of_script (ha : s.cfg.auxPins[s.pin.toNat]? = some a) (hp : s.pc = .axPoll)
    (hd : s.devIn = zext 64 v :: ds) :
    blockStep s = .next (s.polled a.ctl v ds (if auxPollDone v (s.polls + 1) then .axClear else .axPoll)) := by
  rw [blockStep_axPoll ha hp, State.read32Value_of_script hd, zext_zext_answer, hd, List.tail_cons]

/-- Settles O28: the value read is the device's answer, and the wait ends as `auxPollDone` says. -/
theorem auxPollReadsControlOnce : Obligations.AuxPollReadsControlOnce := by
  intro s a ha hp
  refine ⟨s.read32Value a.ctl, fun _ _ hd => State.read32Value_of_script hd _, ?_⟩
  simp only [blockStep_axPoll ha hp, auxPollDone_iff]
  rfl

/-! ## The order of the operations (R159, R160) -/

theorem blockStep_axBegin (hp : s.pc = .axBegin) :
    blockStep s = .next { s with idx := 0, auxOp := .indexWrite, pc := .axLoadHdr } := by
  rw [blockStep, hp]; rfl

theorem blockStep_axAfter (hp : s.pc = .axAfter) : blockStep s = .next (phaseAxAfter s) := by
  rw [blockStep, hp]

/-- After the index write comes the probe. -/
theorem blockStep_axAfter_indexWrite (hp : s.pc = .axAfter) (hop : s.auxOp = .indexWrite) :
    blockStep s = .next { s with auxOp := .writeProbe, pc := .axLoadHdr } := by
  simp only [blockStep_axAfter hp, phaseAxAfter, hop]; rfl

/-- A probe that failed ends the attempt. -/
theorem blockStep_axAfter_probeError (hp : s.pc = .axAfter) (hop : s.auxOp = .writeProbe) (he : auxError s.auxSt = true) :
    blockStep s = .next (attemptEnd .aux .auxError s) := by
  simp only [blockStep_axAfter hp, phaseAxAfter, hop, he, if_true]

/-- After a good probe come the byte reads. -/
theorem blockStep_axAfter_probeGood (hp : s.pc = .axAfter) (hop : s.auxOp = .writeProbe) (he : auxError s.auxSt = false) :
    blockStep s = .next { s with auxOp := .readByte, pc := .axLoadHdr } := by
  simp only [blockStep_axAfter hp, phaseAxAfter, hop, he]
  rfl

/-- After a byte read comes its fetch. -/
theorem blockStep_axAfter_readByte (hp : s.pc = .axAfter) (hop : s.auxOp = .readByte) :
    blockStep s = .next (s.goto .axFetch) := by
  simp only [blockStep_axAfter hp, phaseAxAfter, hop]

theorem auxError_iff : auxError v = true ↔ v.getLsbD 28 = true ∨ v.getLsbD 25 = true := Bool.or_eq_true_iff

theorem auxError_eq_false (h28 : v.getLsbD 28 = false) (h25 : v.getLsbD 25 = false) : auxError v = false :=
  Bool.or_eq_false_iff.mpr ⟨h28, h25⟩

/-- Settles O29: the statement is the rules of `AX_BEGIN` and `AX_AFTER`, the probe's status judged by `auxError`. -/
theorem auxAttemptRunsIndexWriteProbeThenReads : Obligations.AuxAttemptRunsIndexWriteProbeThenReads :=
  fun _ => ⟨blockStep_axBegin, blockStep_axAfter_indexWrite,
    fun hp hop he => blockStep_axAfter_probeError hp hop (auxError_iff.mpr he),
    fun hp hop h28 h25 => blockStep_axAfter_probeGood hp hop (auxError_eq_false h28 h25), blockStep_axAfter_readByte⟩

/-! ## A transaction run whole (R158, R163 to R165) -/

/-- The writes that start a transaction: its header, its data byte where it has one, its start word. -/
def auxStartEvents (c : Cfg) (a : AuxOffsets) (op : AuxOp) : List Event :=
  [.wr32 a.data1 (auxHeader c op (zext 16 c.periphAddr))] ++ (if op = .readByte then [] else [.wr32 a.data2 0]) ++
  [.wr32 a.ctl (auxStart c (auxSize op))]

theorem transactionEvents_eq (c : Cfg) (op : AuxOp) :
    transactionEvents c a op sts last = auxStartEvents c a op ++ reads a.ctl sts ++ [.wr32 a.ctl (auxClear last)] := rfl

theorem auxStartEvents_length (c : Cfg) (op : AuxOp) :
    (auxStartEvents c a op).length = if op = .readByte then 2 else 3 := by
  cases op <;> rfl

/-- Only a byte read has no data byte (R152). -/
theorem afterHeader_of_ne_readByte {op : AuxOp} (hop : op ≠ .readByte) : afterHeader op = .axLoadData := by
  cases op with
  | readByte => exact absurd rfl hop
  | indexWrite | writeProbe => rfl

/-- The start of a transaction, one write a step (R152 to R154). -/
theorem run_axStart (hwf : s.cfg.wf = true) (hh : s.hostIn = []) (hp : s.pc = .axLoadHdr)
    (ha : s.cfg.auxPins[s.pin.toNat]? = some a) :
    run (if s.auxOp = .readByte then 2 else 3) s = .next { s with
      pc := .axPoll, polls := 0, hist := s.hist ++ auxStartEvents s.cfg a s.auxOp } := by
  have hhdr := blockStep_axLoadHdr ha hp
  by_cases hop : s.auxOp = .readByte
  · rw [if_pos hop]
    simp only [hop, afterHeader] at hhdr
    refine Eq.trans (run_succ_block hwf hh hhdr) ?_
    refine Eq.trans (run_succ_block hwf hh (blockStep_axStart ha rfl)) ?_
    simp [run, auxStartEvents, hop]
  · rw [if_neg hop]
    rw [afterHeader_of_ne_readByte hop] at hhdr
    refine Eq.trans (run_succ_block hwf hh hhdr) ?_
    refine Eq.trans (run_succ_block hwf hh (blockStep_axLoadData ha rfl)) ?_
    refine Eq.trans (run_succ_block hwf hh (blockStep_axStart ha rfl)) ?_
    simp [run, auxStartEvents, hop]

/-- The polls of a transaction, by induction on the busy answers: the last answer ends the wait, because busy has cleared or because
the budget is used up (R155). -/
theorem run_axPolls (hwf : s.cfg.wf = true) (hh : s.hostIn = []) (hp : s.pc = .axPoll)
    (ha : s.cfg.auxPins[s.pin.toNat]? = some a) (hbusy : ∀ v ∈ sts, v.getLsbD 31 = true)
    (hbudget : s.polls.toNat + sts.length ≤ 16383) (hlast : last.getLsbD 31 = false ∨ s.polls.toNat + sts.length = 16383)
    (hd : s.devIn = answers (sts ++ [last]) ++ ds) :
    run (sts.length + 1) s = .next { s with
      pc := .axClear, auxSt := last, polls := s.polls + BitVec.ofNat 16 (sts.length + 1),
      hist := s.hist ++ reads a.ctl (sts ++ [last]), devIn := ds, freeCount := s.freeCount + (sts.length + 1) } := by
  induction sts generalizing s with
  | nil =>
    have hend : last.getLsbD 31 = false ∨ s.polls + 1 = 16384 := by
      refine hlast.imp_right fun h => ?_
      rw [List.length_nil] at h
      bv_omega
    have hstep := blockStep_axPoll_of_script ha hp hd
    rw [if_pos (auxPollDone_iff.mpr hend)] at hstep
    rw [List.length_nil, run_succ_block hwf hh hstep]
    rfl
  | cons v vs ih =>
    obtain ⟨hv, hvs⟩ := List.forall_mem_cons.mp hbusy
    rw [List.length_cons] at hbudget hlast
    have hadd : (s.polls + 1).toNat = s.polls.toNat + 1 := by bv_omega
    have hmore : ¬ (v.getLsbD 31 = false ∨ s.polls + 1 = 16384) := by
      rintro (h | h)
      · exact Bool.false_ne_true (h.symm.trans hv)
      · bv_omega
    have hstep := blockStep_axPoll_of_script ha hp hd
    rw [if_neg (mt auxPollDone_iff.mp hmore)] at hstep
    have hrest := ih (s := s.polled a.ctl v (answers (vs ++ [last]) ++ ds) .axPoll) hwf hh rfl ha hvs
      (by rw [State.polled, hadd]; omega) (by rw [State.polled, hadd, Nat.add_assoc, Nat.add_comm 1]; exact hlast) rfl
    rw [List.length_cons, run_succ_block hwf hh hstep]
    refine hrest.trans ?_
    simp [State.polled, State.heard, reads, BitVec.ofNat_add, Nat.add_assoc, Nat.add_comm 1, BitVec.add_assoc, BitVec.add_comm 1#16]

/-- A transaction, whatever the operation. -/
theorem run_axTransaction (hwf : s.cfg.wf = true) (hh : s.hostIn = []) (hp : s.pc = .axLoadHdr)
    (ha : s.cfg.auxPins[s.pin.toNat]? = some a) (hbusy : ∀ v ∈ sts, v.getLsbD 31 = true) (hbudget : sts.length ≤ 16383)
    (hlast : last.getLsbD 31 = false ∨ sts.length = 16383) (hd : s.devIn = answers (sts ++ [last]) ++ ds) :
    run ((if s.auxOp = .readByte then 4 else 5) + sts.length) s = .next { s with
      pc := .axAfter, auxSt := last, polls := BitVec.ofNat 16 (sts.length + 1),
      hist := s.hist ++ transactionEvents s.cfg a s.auxOp (sts ++ [last]) last, devIn := ds,
      freeCount := s.freeCount + (sts.length + 1) } := by
  have hsteps : (if s.auxOp = .readByte then 4 else 5) + sts.length =
      (if s.auxOp = .readByte then 2 else 3) + (sts.length + 1 + 1) := by
    split <;> omega
  rw [hsteps]
  refine Eq.trans (run_add _ (run_axStart hwf hh hp ha)) ?_
  refine Eq.trans (run_add 1 (run_axPolls hwf hh rfl ha hbusy (by simpa using hbudget) (by simpa using hlast) hd)) ?_
  refine Eq.trans (run_succ_block hwf hh (blockStep_axClear ha rfl)) ?_
  simp [run, transactionEvents_eq]

/-- Settles O31: the run of a transaction, with its whole state. -/
theorem auxTransactionRunsToItsClearingWrite : Obligations.AuxTransactionRunsToItsClearingWrite := by
  intro s a sts last rest hwf hh hp ha hbusy hbudget hlast hd
  have hpolls : (BitVec.ofNat 16 (sts.length + 1)).toNat = sts.length + 1 := by
    rw [BitVec.toNat_ofNat]; omega
  exact ⟨_, run_axTransaction hwf hh hp ha hbusy hbudget hlast hd, rfl, rfl, rfl, rfl, rfl, rfl, rfl, hpolls, rfl⟩

/-! ## The bound on the polls (R156) -/

/-- `t` is `s` at the end of its polls: besides `pc` only what a poll writes may differ. -/
def State.PollsEndAt (s t : State) : Prop :=
  t = { s with pc := .axClear, auxSt := t.auxSt, polls := t.polls, hist := t.hist, devIn := t.devIn, freeCount := t.freeCount }

/-- By induction on the polls left: while one is left the wait goes on, and the last one ends it. -/
theorem exists_run_axPoll {k : Nat} (hwf : s.cfg.wf = true) (hh : s.hostIn = []) (hp : s.pc = .axPoll)
    (ha : s.cfg.auxPins[s.pin.toNat]? = some a) (hleft : s.polls.toNat + (k + 1) = 16384) :
    ∃ n t, 1 ≤ n ∧ n ≤ k + 1 ∧ run n s = .next t ∧ t.hist.length = s.hist.length + n ∧ s.PollsEndAt t := by
  induction k generalizing s with
  | zero =>
    have hdone : auxPollDone (s.read32Value a.ctl) (s.polls + 1) = true := auxPollDone_iff.mpr (.inr (by bv_omega))
    have hstep := blockStep_axPoll ha hp
    rw [if_pos hdone] at hstep
    exact ⟨1, _, le_rfl, le_rfl, run_succ_block hwf hh hstep, List.length_append, rfl⟩
  | succ k ih =>
    have hstep := blockStep_axPoll ha hp
    split at hstep
    · exact ⟨1, _, le_rfl, by omega, run_succ_block hwf hh hstep, List.length_append, rfl⟩
    · have hadd : (s.polls + 1).toNat = s.polls.toNat + 1 := by bv_omega
      obtain ⟨n, t, -, hn, hrun, hlen, hend⟩ := ih (s := s.polled a.ctl (s.read32Value a.ctl) s.devIn.tail .axPoll)
        hwf hh rfl ha (by rw [State.polled, hadd]; omega)
      have hone : (s.polled a.ctl (s.read32Value a.ctl) s.devIn.tail .axPoll).hist.length = s.hist.length + 1 :=
        List.length_append
      exact ⟨n + 1, t, by omega, by omega, (run_succ_block hwf hh hstep).trans hrun, by omega, hend⟩

/-- At `POLLS` 0 the whole budget is left. -/
theorem exists_run_axPoll_of_start (hwf : s.cfg.wf = true) (hh : s.hostIn = []) (hp : s.pc = .axPoll) (hpolls : s.polls = 0)
    (hpin : auxPinOk s.pin = true) :
    ∃ n t, 1 ≤ n ∧ n ≤ 16384 ∧ run n s = .next t ∧ t.hist.length = s.hist.length + n ∧ s.PollsEndAt t := by
  obtain ⟨a, ha⟩ := auxPin?_of_ok (c := s.cfg) hpin
  have hleft : s.polls.toNat + (16383 + 1) = 16384 := by rw [hpolls]; rfl
  exact exists_run_axPoll hwf hh hp ha hleft

/-- Settles O32: the polls are bounded by their budget, and end in `AX_CLEAR`. -/
theorem auxPollIsBounded : Obligations.AuxPollIsBounded := by
  intro s hwf hh hp hpolls hpin
  obtain ⟨n, t, hpos, hn, hrun, hlen, hend⟩ := exists_run_axPoll_of_start hwf hh hp hpolls hpin
  exact ⟨n, t, hpos, hn, hrun, by rw [hend], hlen⟩

/-! ## Runs that count accesses -/

/-- The block gets from `s` to `t` with at most `k` accesses. -/
def State.Reaches (s : State) (k : Nat) (t : State) : Prop :=
  ∃ n, run n s = .next t ∧ t.hist.length ≤ s.hist.length + k

theorem State.Reaches.trans {k l : Nat} (h : s.Reaches k t) (h' : t.Reaches l u) : s.Reaches (k + l) u := by
  obtain ⟨n, hrun, hlen⟩ := h
  obtain ⟨m, hrun', hlen'⟩ := h'
  exact ⟨n + m, (run_add m hrun).trans hrun', by omega⟩

theorem State.Reaches.mono {k l : Nat} (h : s.Reaches k t) (hkl : k ≤ l) : s.Reaches l t := by
  obtain ⟨n, hrun, hlen⟩ := h
  exact ⟨n, hrun, by omega⟩

/-! ## `AUX_READ` ends (R166) -/

/-- What holds all through an `AUX_READ` during which the host makes no move. -/
structure State.AuxReading (s : State) : Prop where
  cfgWf : s.cfg.wf = true
  noHostMove : s.hostIn = []
  command : s.cmdOp = Op.auxRead
  pin : auxPinOk s.pin = true
  noBlock : s.edidValid = false

theorem State.AuxReading.pinRegisters (h : s.AuxReading) : ∃ a, s.cfg.auxPins[s.pin.toNat]? = some a :=
  auxPin?_of_ok h.pin

/-- A step of the block that makes at most `k` accesses. -/
theorem State.AuxReading.reaches (h : s.AuxReading) (hb : blockStep s = .next t) {k : Nat}
    (hk : t.hist.length ≤ s.hist.length + k) : s.Reaches k t :=
  ⟨1, run_succ_block h.cfgWf h.noHostMove hb, hk⟩

/-- The polls of a transaction end within their bound. -/
theorem State.AuxReading.polls (h : s.AuxReading) (hp : s.pc = .axPoll) (hpolls : s.polls = 0) :
    ∃ t, s.Reaches 16384 t ∧ t.AuxReading ∧ t.pc = .axClear ∧ t.auxOp = s.auxOp ∧ t.idx = s.idx := by
  obtain ⟨n, t, -, hn, hrun, hlen, hend⟩ := exists_run_axPoll_of_start h.cfgWf h.noHostMove hp hpolls h.pin
  have ht : t.AuxReading := by
    rw [hend]
    exact { h with }
  exact ⟨t, ⟨n, hrun, by omega⟩, ht, by rw [hend], by rw [hend], by rw [hend]⟩

/-- A transaction ends: two or three writes, the polls, the clearing write. -/
theorem State.AuxReading.transaction (h : s.AuxReading) (hp : s.pc = .axLoadHdr) :
    ∃ t, s.Reaches (if s.auxOp = .readByte then 3 + 16384 else 4 + 16384) t ∧ t.AuxReading ∧ t.pc = .axAfter ∧
      t.auxOp = s.auxOp ∧ t.idx = s.idx := by
  obtain ⟨a, ha⟩ := h.pinRegisters
  have hstart : s.Reaches (if s.auxOp = .readByte then 2 else 3) _ :=
    ⟨_, run_axStart h.cfgWf h.noHostMove hp ha, by simp [auxStartEvents_length]⟩
  obtain ⟨c, hpolls, hc, hcpc, hcop, hcidx⟩ := State.AuxReading.polls
    (s := { s with pc := .axPoll, polls := 0, hist := s.hist ++ auxStartEvents s.cfg a s.auxOp }) { h with } rfl rfl
  obtain ⟨a', ha'⟩ := hc.pinRegisters
  have hclear : c.Reaches 1 _ := hc.reaches (blockStep_axClear ha' hcpc) (by simp)
  exact ⟨_, ((hstart.trans hpolls).trans hclear).mono (by split <;> omega), { hc with }, rfl, hcop, hcidx⟩

/-- A byte read ends and its byte is fetched. -/
theorem State.AuxReading.byte (h : s.AuxReading) (hp : s.pc = .axLoadHdr) (hop : s.auxOp = .readByte) (hi : s.idx.toNat < 128) :
    ∃ t, s.Reaches (4 + 16384) t ∧ t.AuxReading ∧ t.auxOp = .readByte ∧ t.idx = s.idx + 1 ∧
      t.pc = if s.idx + 1 = 128 then .axCheck else .axLoadHdr := by
  obtain ⟨c, htrans, hc, hpc, hcop, hidx⟩ := h.transaction hp
  rw [if_pos hop] at htrans
  rw [hop] at hcop
  have hafter : c.Reaches 0 (c.goto .axFetch) := hc.reaches (blockStep_axAfter_readByte hpc hcop) le_rfl
  have hf : (c.goto .axFetch).AuxReading := { hc with }
  obtain ⟨a, ha⟩ := hf.pinRegisters
  have hfetch : (c.goto .axFetch).Reaches 1 _ := hf.reaches (blockStep_axFetch ha rfl (hidx ▸ hi)) (by simp)
  exact ⟨_, ((htrans.trans hafter).trans hfetch).mono (by omega), { hc with }, hcop, by simp [hidx], by simp [hidx]⟩

/-- By induction on the bytes left: all are read, and the header of the block is tested. -/
theorem State.AuxReading.bytes {k : Nat} (h : s.AuxReading) (hp : s.pc = .axLoadHdr) (hop : s.auxOp = .readByte)
    (hleft : s.idx.toNat + (k + 1) = 128) :
    ∃ t, s.Reaches ((k + 1) * (4 + 16384)) t ∧ t.AuxReading ∧ t.pc = .axCheck := by
  induction k generalizing s with
  | zero =>
    obtain ⟨t, hreach, ht, -, -, hpc⟩ := h.byte hp hop (by omega)
    exact ⟨t, hreach.mono (by omega), ht, hpc.trans (if_pos (by bv_omega))⟩
  | succ k ih =>
    obtain ⟨t, hreach, ht, htop, hidx, hpc⟩ := h.byte hp hop (by omega)
    have hadd : (s.idx + 1).toNat = s.idx.toNat + 1 := by bv_omega
    rw [if_neg (by bv_omega)] at hpc
    obtain ⟨u, hreach', hu, hupc⟩ := ih ht hpc htop (by rw [hidx]; omega)
    exact ⟨u, (hreach.trans hreach').mono (by omega), hu, hupc⟩

/-- An attempt gets to its end, with an outcome that `AUX_READ` can have: the index write, the probe, and after a good probe the 128
bytes. -/
theorem State.AuxReading.attempt (h : s.AuxReading) (hp : s.pc = .axBegin) :
    ∃ t o, s.Reaches (2 * (4 + 16384) + 128 * (4 + 16384)) t ∧ t.AuxReading ∧
      blockStep t = .next (attemptEnd .aux o t) ∧ (o = .found ∨ o = .badHeader ∨ o = .auxError) := by
  have hbegin : s.Reaches 0 _ := h.reaches (blockStep_axBegin hp) le_rfl
  obtain ⟨x, hindex, hx, hxpc, hxop, hxidx⟩ :=
    State.AuxReading.transaction (s := { s with idx := 0, auxOp := .indexWrite, pc := .axLoadHdr }) { h with } rfl
  have hnext : x.Reaches 0 _ := hx.reaches (blockStep_axAfter_indexWrite hxpc hxop) le_rfl
  obtain ⟨y, hprobe, hy, hypc, hyop, hyidx⟩ :=
    State.AuxReading.transaction (s := { x with auxOp := .writeProbe, pc := .axLoadHdr }) { hx with } rfl
  have hprobed : s.Reaches (2 * (4 + 16384)) y := 
    (((hbegin.trans hindex).trans hnext).trans hprobe).mono (by split <;> split <;> omega)
  cases he : auxError y.auxSt with
  | true =>
    exact ⟨y, .auxError, hprobed.mono (by omega), hy, blockStep_axAfter_probeError hypc hyop he, .inr (.inr rfl)⟩
  | false =>
    have hgood : y.Reaches 0 _ := hy.reaches (blockStep_axAfter_probeGood hypc hyop he) le_rfl
    have hzero : y.idx = 0 := hyidx.trans hxidx
    obtain ⟨z, hbytes, hz, hzpc⟩ := State.AuxReading.bytes (k := 127) (s := { y with auxOp := .readByte, pc := .axLoadHdr })
      { hy with } rfl rfl (by simp only [hzero]; rfl)
    refine ⟨z, _, ((hprobed.trans hgood).trans hbytes).mono (by omega), hz, blockStep_axCheck hzpc, ?_⟩
    split
    · exact .inl rfl
    · exact .inr (.inl rfl)

/-- `AUX_READ` surfaces the outcome of its attempt, and holds a block exactly when it found one. -/
theorem State.AuxReading.surfaces (h : s.AuxReading) (o : AttemptOutcome) :
    attemptEnd .aux o s = (s.recordOutcome .aux o).finish (outcomeCode o) (zext 32 s.idx) ∧
      ((s.recordOutcome .aux o).edidValid = true ↔ o = .found) := by
  refine ⟨attemptEnd_single (.inr h.command), ?_⟩
  cases o <;> simp [State.recordOutcome, h.noBlock]

theorem outcomeCode_ok_iff {o : AttemptOutcome} : outcomeCode o = .ok ↔ o = .found := by
  cases o <;> simp [outcomeCode]

/-- Settles O33: the pin is in range, so the command is accepted; its attempt gets to an end that surfaces one of three outcomes. -/
theorem auxReadAlwaysEnds : Obligations.AuxReadAlwaysEnds := by
  intro s pin a0 a1 hwf hh hfree hpin
  obtain ⟨-, hissue, -⟩ := searchCommandsStart s a0 a1 hfree
  have hstart : State.AuxReading { s with
      cmdOp := 0x11, cmdPin := pin, arg0 := a0, arg1 := a1, busy := true, edidValid := false, timingValid := false, pin := pin,
      pc := .axBegin } := ⟨hwf, hh, rfl, auxPinOk_iff.mpr hpin, rfl⟩
  obtain ⟨t, o, hreach, ht, hlast, ho⟩ := hstart.attempt rfl
  obtain ⟨hend, hvalid⟩ := ht.surfaces o
  obtain ⟨n, hrun, hlen⟩ := hreach.trans (ht.reaches hlast (k := 0) (congrArg List.length (attemptEnd_hist o)).le)
  rw [hend] at hrun hlen
  refine ⟨_, n, _, hissue pin hpin, hrun, rfl, rfl, hlen, ?_, outcomeCode_ok_iff.trans hvalid.symm⟩
  obtain rfl | rfl | rfl := ho
  · exact .inl rfl
  · exact .inr (.inl rfl)
  · exact .inr (.inr rfl)

end Sys2Proof.Machine
end

section
/-! PROOFS. The family 43_acquirer.md: the end of an attempt (R176, R178), the way through the pins (R177, R179 to R181), the two
searches run whole, in the quickest success and the quickest failure, and the order of a search (R182).

A failing search is put together of attempts by the steps and accesses each takes, by induction on the pins of a transport. For the
order, every point of a search says which pins have been tried and what has been added to the history; each step leads from one
point to another, for both transports by the same argument where they move alike, and the order holds in every point. -/

namespace Sys2Proof.Machine

variable {s t u : State} {tr : Transport}

/-! ## The end of an attempt (R176, R178) -/

theorem State.recordOutcome_eq (o : AttemptOutcome) :
    s.recordOutcome tr o = if o = .found then { s with foundTransport := tr, foundPin := s.pin, edidValid := true } else s := by
  cases o <;> rfl

theorem afterAttempt_eq (o : AttemptOutcome) :
    afterAttempt tr o = if o = .found then .aqDone else if tr = .twoWire then .aqNextTw else .aqNextAux := by
  cases o <;> cases tr <;> rfl

/-- Settles O23: what is recorded and where a search goes are said once for all outcomes. -/
theorem attemptEndSurfacesOrGoesOn : Obligations.AttemptEndSurfacesOrGoesOn := by
  rintro s tr o m rfl
  rw [← State.recordOutcome_eq, ← afterAttempt_eq]
  exact ⟨attemptEnd_single, attemptEnd_search, rfl, rfl, rfl, rfl, rfl⟩

/-- In a search the end of an attempt leaves the command running. -/
theorem attemptEnd_of_searchOp (hop : searchOp s.cmdOp) (o : AttemptOutcome) :
    attemptEnd tr o s = (s.recordOutcome tr o).goto (afterAttempt tr o) := by
  obtain hop | hop := hop <;> exact attemptEnd_search (by rw [hop]; decide) (by rw [hop]; decide)

/-- In a search a failing outcome is never surfaced, whatever it is: the search goes on to the next pin. -/
theorem attemptEnd_of_failure (hop : searchOp s.cmdOp) {o : AttemptOutcome} (ho : o ≠ .found) :
    attemptEnd tr o s = s.goto (nextPhase tr) := by
  rw [attemptEnd_of_searchOp hop, State.recordOutcome_of_ne_found ho, afterAttempt_of_ne_found ho]

/-! ## The way through the pins (R177, R179 to R181) -/

/-- The last pin of a transport (R174). -/
def lastPin : Transport → Nat
  | .twoWire => 6
  | .aux     => 5

/-- Retry: the next pin of the same transport. -/
theorem blockStep_nextPin (hp : s.pc = nextPhase tr) (hpin : s.pin.toNat < lastPin tr) :
    blockStep s = .next { s with pin := s.pin + 1, pc := firstPhase tr } := by
  rw [blockStep, hp]
  cases tr with
  | twoWire => exact congrArg _ (if_pos (BitVec.lt_def.mpr hpin))
  | aux => exact congrArg _ (if_pos (BitVec.lt_def.mpr hpin))

/-- Fallback: after the last two-wire pin the auxiliary channel begins. -/
theorem blockStep_fallback (hp : s.pc = .aqNextTw) (hpin : ¬ s.pin.toNat < 6) :
    blockStep s = .next { s with pin := 0, pc := .axBegin } := by
  rw [blockStep, hp]
  exact congrArg _ (if_neg (mt BitVec.lt_def.mp hpin))

/-- After the last auxiliary pin the search has failed. -/
theorem blockStep_lastPinFailed (hp : s.pc = .aqNextAux) (hpin : ¬ s.pin.toNat < 5) :
    blockStep s = .next { s with pc := .aqFail } := by
  rw [blockStep, hp]
  exact congrArg _ (if_neg (mt BitVec.lt_def.mp hpin))

theorem blockStep_aqFail (hp : s.pc = .aqFail) : blockStep s = .next (s.finish .idNotFound 0) := by
  rw [blockStep, hp]; rfl

theorem blockStep_aqDone_bringup (hp : s.pc = .aqDone) (hop : s.cmdOp = Op.bringup) : blockStep s = .next (s.goto .dcRun) := by
  rw [blockStep, hp]
  exact congrArg _ (if_pos hop)

theorem blockStep_aqDone_acquire (hp : s.pc = .aqDone) (hop : s.cmdOp ≠ Op.bringup) :
    blockStep s = .next (s.finish .ok (foundInfo s)) := by
  rw [blockStep, hp]
  exact congrArg _ (if_neg hop)

theorem blockStep_dcRun (hp : s.pc = .dcRun) : blockStep s = .next (phaseDcRun s) := by
  rw [blockStep, hp]

/-- In `IDLE` the state stays (log 7). -/
theorem blockStep_idle (hp : s.pc = .idle) : blockStep s = .next s := by
  rw [blockStep, hp]

/-- Settles O34: the statement is the rules of the four phases. -/
theorem acquirerMovesThroughThePins : Obligations.AcquirerMovesThroughThePins :=
  fun _ => ⟨blockStep_nextPin (tr := .twoWire), blockStep_fallback, blockStep_nextPin (tr := .aux), blockStep_lastPinFailed,
    blockStep_aqFail, blockStep_aqDone_bringup, blockStep_aqDone_acquire⟩

/-! ## The start of a search (R175, R183) -/

/-- A free block that has accepted the search command with the operation code `op`. -/
def State.searchStarted (s : State) (op : U8) (a0 a1 : U64) : State :=
  { s with
    cmdOp := op, cmdPin := 0, arg0 := a0, arg1 := a1, busy := true, edidValid := false, timingValid := false, pin := 2,
    pc := .twSel }

theorem exec_acquire (a0 a1 : U64) (hfree : s.busy = false) :
    exec (.acquire a0 a1) s = .next (s.searchStarted Op.acquire a0 a1) := by
  obtain ⟨-, -, hacquire, -⟩ := searchCommandsStart s a0 a1 hfree
  exact hacquire

theorem exec_bringup (a0 a1 : U64) (hfree : s.busy = false) :
    exec (.bringup a0 a1) s = .next (s.searchStarted Op.bringup a0 a1) := by
  obtain ⟨-, -, -, hbringup⟩ := searchCommandsStart s a0 a1 hfree
  exact hbringup

/-- The two searches start alike. -/
theorem exec_search {i : Instr} {a0 a1 : U64} (hfree : s.busy = false) (hi : i = .acquire a0 a1 ∨ i = .bringup a0 a1) :
    ∃ op, searchOp op ∧ exec i s = .next (s.searchStarted op a0 a1) := by
  obtain rfl | rfl := hi
  · exact ⟨_, .inl rfl, exec_acquire a0 a1 hfree⟩
  · exact ⟨_, .inr rfl, exec_bringup a0 a1 hfree⟩

/-- A search during which the host makes no move. -/
structure State.Searches (c : Cfg) (s : State) : Prop where
  cfg : s.cfg = c
  cfgWf : c.wf = true
  noHostMove : s.hostIn = []
  command : searchOp s.cmdOp

/-- A search starts with the host making no move. -/
theorem searchStarted_searches {op : U8} {a0 a1 : U64} (hwf : s.cfg.wf = true) (hh : s.hostIn = []) (hop : searchOp op) :
    (s.searchStarted op a0 a1).Searches s.cfg := ⟨rfl, hwf, hh, hop⟩

/-! ## A search that succeeds on its first pin (R181, R183) -/

section FirstPin

variable {st w : Nat → U32} {ds : List U64}

/-- A block whose first two words are those of the magic header has it. -/
theorem magic_of_holdsWords {b : Vector U8 128} (hb : holdsWords b w) (h0 : w 0 = 0xFFFFFF00) (h1 : w 1 = 0x00FFFFFF) :
    magic b = true := by
  have hfirst : b[0] = 0x00 ∧ b[1] = 0xFF ∧ b[2] = 0xFF ∧ b[3] = 0xFF := by simpa [h0] using hb 0 (by decide)
  have hsecond : b[4] = 0xFF ∧ b[5] = 0xFF ∧ b[6] = 0xFF ∧ b[7] = 0x00 := by simpa [h1] using hb 1 (by decide)
  simp [magic, hfirst, hsecond]

/-- Six accesses, two for each of the 32 words, and the last poll (R146). -/
theorem twAttemptEvents_length (c : Cfg) (pin : U8) : (twAttemptEvents c pin st w).length = 71 := by
  simp [twAttemptEvents, twStartEvents, twWordEvents, List.length_flatMap]

/-- The state of a search after the attempt that delivered the block. -/
def State.searchFound (s : State) (st w : Nat → U32) (ds : List U64) : State :=
  ((s.attemptRead st w ds).markFound .twoWire).goto .aqDone

/-- A search whose pin delivers a block with the magic header goes no further. -/
theorem run_searchFound (hwf : s.cfg.wf = true) (hh : s.hostIn = []) (hp : s.pc = .twSel) (hop : searchOp s.cmdOp)
    (hst : ∀ i, twClassify s.cfg (st i) = .ready) (h0 : w 0 = 0xFFFFFF00) (h1 : w 1 = 0x00FFFFFF)
    (hd : s.devIn = answers (twAttemptAnswers st w) ++ ds) : run 72 s = .next (s.searchFound st w ds) := by
  have hmagic : magic (storeWords s.edid w 32) = true := magic_of_holdsWords (holdsWords_storeWords _ w) h0 h1
  have hend : attemptEnd .twoWire .found (s.attemptRead st w ds) = s.searchFound st w ds :=
    attemptEnd_of_searchOp (s := s.attemptRead st w ds) hop _
  refine Eq.trans (run_add 1 (run_twAttempt hwf hh hp hst hd)) ?_
  refine Eq.trans (run_succ_block hwf hh (blockStep_twCheck rfl)) ?_
  rw [twOutcome_attemptRead, if_pos hmagic, hend]
  rfl

theorem searchFound_hist_length : (s.searchFound st w ds).hist.length = s.hist.length + 71 := by
  simp [State.searchFound, State.markFound, State.attemptRead, twAttemptEvents_length]

/-- On the two-wire bus the number of the transport is 0 (R28). -/
theorem foundInfo_of_twoWire (h : s.foundTransport = .twoWire) : foundInfo s = zext 32 s.foundPin := by
  simp [foundInfo, h, Transport.code]

/-- `BRINGUP` decodes the block found in its last two steps. -/
theorem run_aqDone_bringup (hwf : s.cfg.wf = true) (hh : s.hostIn = []) (hp : s.pc = .aqDone) (hop : s.cmdOp = Op.bringup) :
    run 2 s = .next (phaseDcRun (s.goto .dcRun)) := by
  refine Eq.trans (run_succ_block hwf hh (blockStep_aqDone_bringup hp hop)) ?_
  exact run_succ_block hwf hh (blockStep_dcRun rfl)

/-- Settles O35: both searches find the block in the same 72 steps; then `ACQUIRE` ends, and `BRINGUP` decodes the block. -/
theorem searchSucceedsOnTheFirstPin : Obligations.SearchSucceedsOnTheFirstPin := by
  intro s a0 a1 st w rest hwf hh hfree hst h0 h1 hd
  have hfound {op : U8} (hop : searchOp op) :
      run 72 (s.searchStarted op a0 a1) = .next ((s.searchStarted op a0 a1).searchFound st w rest) :=
    run_searchFound hwf hh rfl hop hst h0 h1 hd
  have hinfo (op : U8) : foundInfo ((s.searchStarted op a0 a1).searchFound st w rest) = 2 := foundInfo_of_twoWire rfl
  have hlen (op : U8) : ((s.searchStarted op a0 a1).searchFound st w rest).hist.length = s.hist.length + 71 :=
    searchFound_hist_length
  have hheld : holdsWords (storeWords s.edid w 32) w := holdsWords_storeWords _ w
  refine ⟨?acquire, ?bringup⟩
  case acquire =>
    have hend := run_succ_block (n := 0) (s := (s.searchStarted Op.acquire a0 a1).searchFound st w rest) hwf hh
      (blockStep_aqDone_acquire rfl (of_decide_eq_true rfl))
    exact ⟨_, _, exec_acquire a0 a1 hfree, (run_add 1 (hfound (.inl rfl))).trans hend, rfl, rfl, rfl, hinfo _, rfl, rfl, rfl,
      hheld, rfl, rfl, rfl, hlen _, rfl⟩
  case bringup =>
    have hdecode := run_aqDone_bringup (s := (s.searchStarted Op.bringup a0 a1).searchFound st w rest) hwf hh rfl rfl
    exact ⟨_, _, exec_bringup a0 a1 hfree, (run_add 2 (hfound (.inr rfl))).trans hdecode, rfl, rfl, rfl, hinfo Op.bringup, rfl,
      rfl, rfl, hheld, rfl, rfl, rfl, rfl, hlen _, rfl⟩

end FirstPin

/-! ## A search whose every attempt fails at once (R180, R290) -/

section EveryPinFails

variable {c : Cfg} {vs : List U32} {ds : List U64} {k l m n : Nat}

/-- The block gets from `s` to `t` in `n` steps and `k` accesses, with its command running and its data registers untouched. -/
structure State.SearchesTo (s : State) (n k : Nat) (t : State) : Prop where
  run : run n s = .next t
  data : t.dataRegisters = s.dataRegisters
  hostIn : t.hostIn = s.hostIn
  command : t.cmdOp = s.cmdOp
  accesses : t.hist.length = s.hist.length + k

theorem State.SearchesTo.searches (h : s.SearchesTo n k t) (hs : s.Searches c) : t.Searches c :=
  ⟨(congrArg DataRegisters.cfg h.data).trans hs.cfg, hs.cfgWf, h.hostIn.trans hs.noHostMove, h.command ▸ hs.command⟩

theorem State.SearchesTo.trans (h : s.SearchesTo n k t) (h' : t.SearchesTo m l u) : s.SearchesTo (n + m) (k + l) u where
  run := (run_add m h.run).trans h'.run
  data := h'.data.trans h.data
  hostIn := h'.hostIn.trans h.hostIn
  command := h'.command.trans h.command
  accesses := by rw [h'.accesses, h.accesses, Nat.add_assoc]

/-- One step of the block that makes `k` accesses. -/
theorem State.Searches.step (hs : s.Searches c) (hb : blockStep s = .next t) (hdata : t.dataRegisters = s.dataRegisters)
    (hhost : t.hostIn = s.hostIn) (hcommand : t.cmdOp = s.cmdOp) (haccesses : t.hist.length = s.hist.length + k) :
    s.SearchesTo 1 k t :=
  ⟨run_succ_block (hs.cfg ▸ hs.cfgWf) hs.noHostMove hb, hdata, hhost, hcommand, haccesses⟩

/-- The pin is selected, and its first poll reads a bus error. -/
theorem searchesTo_busError {v : U32} (hs : s.Searches c) (hp : s.pc = .twSel) (hv : twClassify c v = .busErr)
    (hd : s.devIn = answers [v] ++ ds) :
    ∃ t, s.SearchesTo 2 2 t ∧ t.pc = .aqNextTw ∧ t.pin = s.pin ∧ t.devIn = ds := by
  obtain ⟨x, hselect, hxp, hxpin, hxd⟩ :
      ∃ x, s.SearchesTo 1 1 x ∧ x.pc = .twWaitIdle ∧ x.pin = s.pin ∧ x.devIn = s.devIn :=
    ⟨_, hs.step (blockStep_twSel hp) rfl rfl rfl List.length_append, rfl, rfl, rfl⟩
  have hx : x.Searches c := hselect.searches hs
  have hpoll := blockStep_twWait_of_script (by rw [hxp]; rfl) (hxd.trans hd) (hx.cfg ▸ hv)
  rw [hxp, State.afterPoll, attemptEnd_of_failure (s := x.heard _ _ _) hx.command (by decide)] at hpoll
  exact ⟨_, hselect.trans (hx.step hpoll rfl rfl rfl List.length_append), rfl, hxpin, rfl⟩

/-- A write transaction whose first poll finds it finished. -/
theorem searchesTo_transaction {v : U32} (hs : s.Searches c) (hp : s.pc = .axLoadHdr) (hpin : auxPinOk s.pin = true)
    (hop : s.auxOp ≠ .readByte) (hv : auxBusy v = false) (hd : s.devIn = answers [v] ++ ds) :
    ∃ t, s.SearchesTo 5 5 t ∧ t.pc = .axAfter ∧ t.auxOp = s.auxOp ∧ t.auxSt = v ∧ t.pin = s.pin ∧ t.devIn = ds := by
  obtain ⟨rfl, hwf, hh, -⟩ := hs
  obtain ⟨a, ha⟩ := auxPin?_of_ok (c := s.cfg) hpin
  have hrun := run_axTransaction (sts := []) hwf hh hp ha nofun (Nat.zero_le _) (.inl hv) hd
  rw [if_neg hop] at hrun
  exact ⟨_, ⟨hrun, rfl, rfl, rfl, by simp [transactionEvents, hop, reads]⟩, rfl, rfl, rfl, rfl, rfl⟩

/-- The index write and the probe have one poll each, and the probe's status has an error bit. -/
theorem searchesTo_probeError {ix pr : U32} (hs : s.Searches c) (hp : s.pc = .axBegin) (hpin : auxPinOk s.pin = true)
    (hix : auxBusy ix = false) (hpr : auxBusy pr = false) (he : auxError pr = true) (hd : s.devIn = answers [ix, pr] ++ ds) :
    ∃ t, s.SearchesTo 13 10 t ∧ t.pc = .aqNextAux ∧ t.pin = s.pin ∧ t.devIn = ds := by
  have hbegin : s.SearchesTo 1 0 _ := hs.step (blockStep_axBegin hp) rfl rfl rfl rfl
  obtain ⟨x, hindex, hxp, hxop, -, hxpin, hxd⟩ := searchesTo_transaction (hbegin.searches hs) rfl hpin nofun hix hd
  have hx : x.Searches c := hindex.searches (hbegin.searches hs)
  have hnext : x.SearchesTo 1 0 _ := hx.step (blockStep_axAfter_indexWrite hxp hxop) rfl rfl rfl rfl
  obtain ⟨y, hprobe, hyp, hyop, hyst, hypin, hyd⟩ :=
    searchesTo_transaction (hnext.searches hx) rfl (by rw [hxpin]; exact hpin) nofun hpr hxd
  have hy : y.Searches c := hprobe.searches (hnext.searches hx)
  have hend := blockStep_axAfter_probeError hyp hyop (hyst ▸ he)
  rw [attemptEnd_of_failure hy.command (by decide)] at hend
  exact ⟨_, (((hbegin.trans hindex).trans hnext).trans hprobe).trans (hy.step (k := 0) hend rfl rfl rfl rfl), rfl,
    hypin.trans hxpin, hyd⟩

/-- The answers that fail an attempt on a transport at once: a bus error in the first poll, an error bit on the write probe. -/
inductive FailingAnswers (c : Cfg) : Transport → List U32 → Prop where
  | busError {v : U32} (hv : twClassify c v = .busErr) : FailingAnswers c .twoWire [v]
  | probeError {ix pr : U32} (hix : auxBusy ix = false) (hpr : auxBusy pr = false) (he : auxError pr = true) :
      FailingAnswers c .aux [ix, pr]

/-- The steps of an attempt that fails at once. -/
def failingSteps : Transport → Nat
  | .twoWire => 2
  | .aux     => 13

/-- The accesses of an attempt that fails at once. -/
def failingAccesses : Transport → Nat
  | .twoWire => 2
  | .aux     => 10

/-- An attempt that fails at once. -/
theorem searchesTo_nextPhase (hs : s.Searches c) (hp : s.pc = firstPhase tr) (hpin : s.pin.toNat ≤ lastPin tr)
    (hv : FailingAnswers c tr vs) (hd : s.devIn = answers vs ++ ds) :
    ∃ t, s.SearchesTo (failingSteps tr) (failingAccesses tr) t ∧ t.pc = nextPhase tr ∧ t.pin = s.pin ∧ t.devIn = ds := by
  cases hv with
  | busError hv => exact searchesTo_busError hs hp hv hd
  | probeError hix hpr he => exact searchesTo_probeError hs hp (auxPinOk_iff.mpr hpin) hix hpr he hd

theorem answers_range_succ (f : Nat → List U32) (n : Nat) : answers ((List.range (n + 1)).flatMap f) =
    answers (f 0) ++ answers ((List.range n).flatMap fun p => f (p + 1)) := by
  rw [List.range_succ_eq_map, List.flatMap_cons, List.flatMap_map, answers_append]

/-- By induction on the pins that follow: each is tried after the one before has failed. -/
theorem searchesTo_lastPin {f : Nat → List U32} (hs : s.Searches c) (hp : s.pc = firstPhase tr)
    (hpin : s.pin.toNat + n = lastPin tr) (hf : ∀ p, FailingAnswers c tr (f p))
    (hd : s.devIn = answers ((List.range (n + 1)).flatMap f) ++ ds) :
    ∃ t, s.SearchesTo (n * (failingSteps tr + 1) + failingSteps tr) ((n + 1) * failingAccesses tr) t ∧
      t.pc = nextPhase tr ∧ t.pin.toNat = lastPin tr ∧ t.devIn = ds := by
  induction n generalizing s f with
  | zero =>
    rw [answers_range_succ, List.append_assoc] at hd
    obtain ⟨t, hfail, htp, htpin, htd⟩ := searchesTo_nextPhase hs hp hpin.le (hf 0) hd
    exact ⟨t, by simpa using hfail, htp, htpin ▸ hpin, htd⟩
  | succ n ih =>
    rw [answers_range_succ, List.append_assoc] at hd
    obtain ⟨t, hfail, htp, htpin, htd⟩ := searchesTo_nextPhase hs hp (by omega) (hf 0) hd
    have ht : t.Searches c := hfail.searches hs
    have hnext : t.SearchesTo 1 0 _ := ht.step (blockStep_nextPin htp (by rw [htpin]; omega)) rfl rfl rfl rfl
    have hadd : (t.pin + 1).toNat = s.pin.toNat + 1 := by
      have : lastPin tr ≤ 6 := by cases tr <;> decide
      rw [htpin]
      bv_omega
    obtain ⟨u, hrest, hu⟩ := ih (hnext.searches ht) rfl (by simp only [hadd]; omega) (fun p => hf (p + 1)) htd
    have hsteps : (n + 1) * (failingSteps tr + 1) + failingSteps tr =
        failingSteps tr + 1 + (n * (failingSteps tr + 1) + failingSteps tr) := by ring
    have haccesses : (n + 1 + 1) * failingAccesses tr = failingAccesses tr + 0 + (n + 1) * failingAccesses tr := by ring
    rw [hsteps, haccesses]
    exact ⟨u, (hfail.trans hnext).trans hrest, hu⟩

/-- Settles O36: five attempts on the two-wire bus fail, then six on the auxiliary channel, and nothing is left to try. -/
theorem searchFailsAfterElevenAttempts : Obligations.SearchFailsAfterElevenAttempts := by
  intro s a0 a1 tw ix pr rest hwf hh hfree htw hix hpr hd i hi
  obtain ⟨op, hop, hissue⟩ := exec_search hfree hi
  have hs : (s.searchStarted op a0 a1).Searches s.cfg := searchStarted_searches hwf hh hop
  rw [List.map_eq_flatMap, answers_append, List.append_assoc] at hd
  obtain ⟨x, hx, hxp, hxpin, hxd⟩ := searchesTo_lastPin (tr := .twoWire) (n := 4) hs rfl rfl (fun p => .busError (htw p)) hd
  have hxs : x.Searches s.cfg := hx.searches hs
  have hback : x.SearchesTo 1 0 _ := hxs.step (blockStep_fallback hxp hxpin.not_lt) rfl rfl rfl rfl
  obtain ⟨y, hy, hyp, hypin, hyd⟩ := searchesTo_lastPin (tr := .aux) (n := 5) (hback.searches hxs) rfl rfl
    (fun p => .probeError (hix p) (hpr p).1 (hpr p).2) hxd
  have hys : y.Searches s.cfg := hy.searches (hback.searches hxs)
  have hlast : y.SearchesTo 1 0 _ := hys.step (blockStep_lastPinFailed hyp hypin.not_lt) rfl rfl rfl rfl
  obtain ⟨hrun, hdata, -, -, hlen⟩ := ((hx.trans hback).trans hy).trans hlast
  have hend := (run_add 1 hrun).trans (run_succ_block (hys.cfg ▸ hwf) hys.noHostMove (blockStep_aqFail rfl))
  exact ⟨_, _, hissue, hend, rfl, rfl, rfl, rfl, congrArg DataRegisters.edidValid hdata,
    congrArg DataRegisters.timingValid hdata, congrArg DataRegisters.tblHres hdata, congrArg DataRegisters.tblVres hdata, hlen,
    hyd⟩

end EveryPinFails

/-! ## The order of a search (R182) -/

section Order

variable {c : Cfg} {old new : List Event} {sel : List U32} {pins : List Nat} {off v : U32}

theorem allDistinct_iff {l : List Nat} : allDistinct l = true ↔ l.Nodup := by
  induction l with
  | nil => simp [allDistinct]
  | cons x xs ih => simp [allDistinct, ih]

/-- No two register offsets of a well-formed configuration are equal (R10). -/
theorem registerOffsets_nodup (h : c.wf = true) : c.registerOffsets.Nodup := by
  simp only [Cfg.wf, Cfg.offsetsWf, Bool.and_eq_true, allDistinct_iff] at h
  obtain ⟨⟨⟨-, hdistinct⟩, -⟩, -⟩ := h
  exact hdistinct.of_map _

/-- The *select* register is none of the other two-wire registers that are written. -/
theorem ne_twSelectOff (h : c.wf = true) : c.twCommandOff ≠ c.twSelectOff ∧ c.twDataOff ≠ c.twSelectOff := by
  have hnodup := registerOffsets_nodup h
  simp only [Cfg.registerOffsets, Cfg.twOffsets, List.cons_append, List.nodup_cons, List.mem_cons, not_or] at hnodup
  obtain ⟨⟨hcommand, -, hdata, -⟩, -⟩ := hnodup
  exact ⟨Ne.symm hcommand, Ne.symm hdata⟩

/-! ### What a search adds to the history -/

theorem selectWrites_append (c : Cfg) (es fs : List Event) :
    selectWrites c (es ++ fs) = selectWrites c es ++ selectWrites c fs := by
  induction es with
  | nil => rfl
  | cons e es ih =>
    cases e with
    | wr32 off v =>
      simp only [List.cons_append, selectWrites, ih]
      split <;> rfl
    | _ => exact ih

/-- A search has added two-wire accesses, among them the writes `sel` to *select*, and then auxiliary accesses to `pins`. -/
def SearchHistory (c : Cfg) (old new : List Event) (sel : List U32) (pins : List Nat) : Prop :=
  ∃ tw ax, new = old ++ tw ++ ax ∧ onlyAt c.twOffsets tw ∧ selectWrites c tw = sel ∧ List.Forall₂ (atAuxPin c) pins ax

theorem SearchHistory.start : SearchHistory c old old [] [] := ⟨[], [], by simp, nofun, rfl, .nil⟩

/-- Before the first auxiliary access the history grows by two-wire accesses. -/
theorem SearchHistory.twoWire {e : Event} (h : SearchHistory c old new sel []) (hoff : off ∈ c.twOffsets)
    (he : e.offset = some off) : SearchHistory c old (new ++ [e]) (sel ++ selectWrites c [e]) [] := by
  obtain ⟨tw, ax, rfl, honly, rfl, ⟨⟩⟩ := h
  refine ⟨tw ++ [e], [], by simp, fun e' he' => ?_, selectWrites_append c tw [e], .nil⟩
  obtain he' | he' := List.mem_append.mp he'
  · exact honly e' he'
  · obtain rfl := List.mem_singleton.mp he'
    exact ⟨off, hoff, he⟩

theorem SearchHistory.select (h : SearchHistory c old new sel []) (v : U32) :
    SearchHistory c old (new ++ [.wr32 c.twSelectOff v]) (sel ++ [v]) [] := by
  have hselect : selectWrites c [.wr32 c.twSelectOff v] = [v] := if_pos rfl
  simpa only [hselect] using h.twoWire (e := .wr32 c.twSelectOff v) (by simp [Cfg.twOffsets]) rfl

theorem SearchHistory.write (h : SearchHistory c old new sel []) (hoff : off ∈ c.twOffsets) (hne : off ≠ c.twSelectOff) :
    SearchHistory c old (new ++ [.wr32 off v]) sel [] := by
  have hother : selectWrites c [.wr32 off v] = [] := if_neg hne
  simpa only [hother, List.append_nil] using h.twoWire (e := .wr32 off v) hoff rfl

theorem SearchHistory.read (h : SearchHistory c old new sel []) (hoff : off ∈ c.twOffsets) :
    SearchHistory c old (new ++ [.rd32 off v]) sel [] := by
  simpa only [selectWrites, List.append_nil] using h.twoWire (e := .rd32 off v) hoff rfl

theorem SearchHistory.aux {e : Event} {p : Nat} (h : SearchHistory c old new sel pins) (he : atAuxPin c p e) :
    SearchHistory c old (new ++ [e]) sel (pins ++ [p]) := by
  obtain ⟨tw, ax, rfl, honly, hsel, hpins⟩ := h
  exact ⟨tw, ax ++ [e], by simp, honly, hsel, List.rel_append hpins (.cons he .nil)⟩

theorem onlyAt_auxOffsets {ax : List Event} (h : List.Forall₂ (atAuxPin c) pins ax) : onlyAt c.auxOffsets ax := by
  induction h with
  | nil => exact nofun
  | cons he _ ih =>
    obtain ⟨a, ha, off, hoff, he⟩ := he
    refine List.forall_mem_cons.mpr ⟨⟨off, ?_, he⟩, ih⟩
    exact List.mem_flatMap.mpr ⟨a, Vector.mem_toList_iff.mpr (Vector.mem_of_getElem? ha), hoff⟩

/-! ### The pins a search has tried -/

/-- The two-wire pins of a search in their order, as *select* words (R174). -/
def twSearchPins : List U32 := [2, 3, 4, 5, 6]

/-- The auxiliary pins below `p` have been touched, and `p` itself perhaps. -/
structure PinsUpTo (p : Nat) (pins : List Nat) : Prop where
  ascending : pins.Pairwise (· ≤ ·)
  below : ∀ q < p, q ∈ pins
  upTo : ∀ q ∈ pins, q ≤ p

theorem PinsUpTo.touch {p : Nat} (h : PinsUpTo p pins) : PinsUpTo p (pins ++ [p]) where
  ascending := List.pairwise_append.mpr ⟨h.ascending, List.pairwise_singleton _ _, by simpa using h.upTo⟩
  below q hq := List.mem_append_left _ (h.below q hq)
  upTo q hq := by
    obtain hq | hq := List.mem_append.mp hq
    · exact h.upTo q hq
    · exact (List.mem_singleton.mp hq).le

theorem PinsUpTo.next {p : Nat} (h : PinsUpTo p pins) (hp : p ∈ pins) : PinsUpTo (p + 1) pins where
  ascending := h.ascending
  below q hq := by
    obtain hq | rfl := Nat.lt_succ_iff_lt_or_eq.mp hq
    exacts [h.below q hq, hp]
  upTo q hq := (h.upTo q hq).trans (Nat.le_succ p)

/-- The order R182 asks of the *select* writes and the auxiliary pins of a search, in every moment of it. -/
structure SearchOrder (sel : List U32) (pins : List Nat) : Prop where
  twoWire : sel <+: twSearchPins
  fallback : pins ≠ [] → sel = twSearchPins
  ascending : pins.Pairwise (· ≤ ·)
  gapless : ∀ p ∈ pins, ∀ q < p, q ∈ pins

/-- The pins before `pin` have been tried and `pin` comes next. -/
inductive PinDue : Transport → U8 → List U32 → List Nat → Prop where
  | twoWire {pin : U8} (hpin : twPinOk pin = true) : PinDue .twoWire pin (twSearchPins.take (pin.toNat - 2)) []
  | aux {pin : U8} {pins : List Nat} (hpin : auxPinOk pin = true) (h : PinsUpTo pin.toNat pins) :
      PinDue .aux pin twSearchPins pins

/-- The last access was to `pin`, and the pins before it have been tried. -/
inductive PinTried : Transport → U8 → List U32 → List Nat → Prop where
  | twoWire {pin : U8} (hpin : twPinOk pin = true) : PinTried .twoWire pin (twSearchPins.take (pin.toNat - 1)) []
  | aux {pin : U8} {pins : List Nat} (hpin : auxPinOk pin = true) (h : PinsUpTo pin.toNat pins)
      (hlast : pins.getLast? = some pin.toNat) : PinTried .aux pin twSearchPins pins

theorem take_twSearchPins {pin : U8} (hpin : twPinOk pin = true) :
    twSearchPins.take (pin.toNat - 2) ++ [zext 32 pin] = twSearchPins.take (pin.toNat - 1) := by
  obtain ⟨h2, h6⟩ := twPinOk_iff.mp hpin
  obtain rfl | rfl | rfl | rfl | rfl : pin = 2 ∨ pin = 3 ∨ pin = 4 ∨ pin = 5 ∨ pin = 6 := by bv_omega
  all_goals rfl

/-- The pin of a transport that an access was last made to. -/
def LastTouched : Transport → U8 → List U32 → List Nat → Prop
  | .twoWire, pin, sel, pins => pins = [] ∧ sel.getLast? = some (zext 32 pin)
  | .aux,     pin, _,   pins => pins.getLast? = some pin.toNat

theorem PinTried.lastTouched {pin : U8} (h : PinTried tr pin sel pins) : LastTouched tr pin sel pins := by
  cases h with
  | twoWire hpin => exact ⟨rfl, by rw [← take_twSearchPins hpin, List.getLast?_concat]⟩
  | aux _ _ hlast => exact hlast

theorem PinsUpTo.order {p : Nat} (h : PinsUpTo p pins) : SearchOrder twSearchPins pins where
  twoWire := ⟨[], List.append_nil _⟩
  fallback _ := rfl
  ascending := h.ascending
  gapless p hp q hq := h.below q (hq.trans_le (h.upTo p hp))

theorem searchOrder_take (n : Nat) : SearchOrder (twSearchPins.take n) [] where
  twoWire := ⟨_, List.take_append_drop n _⟩
  fallback h := absurd rfl h
  ascending := .nil
  gapless := nofun

theorem PinDue.order {pin : U8} (h : PinDue tr pin sel pins) : SearchOrder sel pins := by
  cases h with
  | twoWire => exact searchOrder_take _
  | aux _ h => exact h.order

theorem PinTried.order {pin : U8} (h : PinTried tr pin sel pins) : SearchOrder sel pins := by
  cases h with
  | twoWire => exact searchOrder_take _
  | aux _ h => exact h.order

theorem PinDue.select {pin : U8} (h : PinDue .twoWire pin sel []) : PinTried .twoWire pin (sel ++ [zext 32 pin]) [] := by
  cases h with
  | twoWire hpin =>
    rw [take_twSearchPins hpin]
    exact .twoWire hpin

theorem PinDue.touch {pin : U8} (h : PinDue .aux pin sel pins) : PinTried .aux pin sel (pins ++ [pin.toNat]) := by
  cases h with
  | aux hpin h => exact .aux hpin h.touch List.getLast?_concat

/-- An auxiliary pin goes on being touched until its attempt ends. -/
theorem PinTried.due {pin : U8} (h : PinTried .aux pin sel pins) : PinDue .aux pin sel pins := by
  cases h with
  | aux hpin h _ => exact .aux hpin h

/-- Retry: the next pin comes next. -/
theorem PinTried.next {pin : U8} (h : PinTried tr pin sel pins) (hlt : pin.toNat < lastPin tr) :
    PinDue tr (pin + 1) sel pins := by
  cases h with
  | twoWire hpin =>
    obtain ⟨h2, -⟩ := twPinOk_iff.mp hpin
    have hlt : pin.toNat < 6 := hlt
    have hadd : (pin + 1).toNat = pin.toNat + 1 := by bv_omega
    have hnext : PinDue .twoWire (pin + 1) _ [] := .twoWire (twPinOk_iff.mpr (by omega))
    rwa [hadd] at hnext
  | aux hpin h hlast =>
    have hlt : pin.toNat < 5 := hlt
    have hadd : (pin + 1).toNat = pin.toNat + 1 := by bv_omega
    exact .aux (auxPinOk_iff.mpr (by omega)) (hadd ▸ h.next (List.mem_of_getLast? hlast))

/-- Fallback: after the last two-wire pin, auxiliary pin 0 comes next. -/
theorem PinTried.fallback {pin : U8} (h : PinTried .twoWire pin sel pins) (hlast : ¬ pin.toNat < 6) :
    PinDue .aux 0 sel pins := by
  cases h with
  | twoWire hpin =>
    obtain ⟨-, h6⟩ := twPinOk_iff.mp hpin
    have hall : twSearchPins.take (pin.toNat - 1) = twSearchPins := List.take_of_length_le (by simp [twSearchPins]; omega)
    rw [hall]
    exact .aux rfl ⟨.nil, nofun, nofun⟩

/-! ### The steps of a search -/

/-- The phases before the first access to a pin, and those in which more accesses to it may follow. -/
def Phase.due : Transport → Phase → Bool
  | .twoWire, .twSel     => true
  | .aux,     .axBegin   => true
  | .aux,     .axLoadHdr => true
  | _,        _          => false

/-- The phases after the first access to a pin, up to the move to the next one. -/
def Phase.tried : Transport → Phase → Bool
  | .twoWire, .twSel     => false
  | .aux,     .axBegin   => false
  | .aux,     .axLoadHdr => false
  | tr,       p          => p.attempts tr || p == nextPhase tr

/-- The phases after a search has found a block or given up. -/
def Phase.searchOver : Phase → Bool
  | .aqDone | .aqFail | .dcRun | .idle => true
  | _                                  => false

theorem Phase.tried_twoWire_iff {p : Phase} : p.tried .twoWire = true ↔
    p.twWait = true ∨ p = .twIdxData ∨ p = .twIdxCmd ∨ p = .twRdCmd ∨ p = .twRdWord ∨ p = .twCheck ∨ p = .aqNextTw := by
  cases p <;> decide

theorem Phase.tried_aux_iff {p : Phase} : p.tried .aux = true ↔
    p = .axLoadData ∨ p = .axStart ∨ p = .axPoll ∨ p = .axClear ∨ p = .axAfter ∨ p = .axFetch ∨ p = .axCheck ∨
    p = .aqNextAux := by
  cases p <;> decide

theorem Phase.due_iff {p : Phase} :
    p.due tr = true ↔ tr = .twoWire ∧ p = .twSel ∨ tr = .aux ∧ (p = .axBegin ∨ p = .axLoadHdr) := by
  cases tr <;> cases p <;> decide

theorem Phase.searchOver_iff {p : Phase} : p.searchOver = true ↔ p = .aqDone ∨ p = .aqFail ∨ p = .dcRun ∨ p = .idle := by
  cases p <;> decide

/-- A search that has found no block yet, with what it has added to the history. -/
structure State.Seeks (c : Cfg) (old : List Event) (sel : List U32) (pins : List Nat) (s : State) : Prop
    extends s.Searches c where
  noBlock : s.edidValid = false
  events : SearchHistory c old s.hist sel pins

/-- What has been added to the history is in order, and ends with the pin on which the block was found. -/
def State.SearchedInOrder (c : Cfg) (old : List Event) (s : State) : Prop :=
  ∃ sel pins, SearchHistory c old s.hist sel pins ∧ SearchOrder sel pins ∧
    (s.edidValid = true → LastTouched s.foundTransport s.foundPin sel pins)

/-- Where a search can be: before or after the first access to a pin, or over. -/
inductive SearchPoint (c : Cfg) (old : List Event) (s : State) : Prop where
  | due (tr : Transport) {sel : List U32} {pins : List Nat} (h : s.Seeks c old sel pins) (hp : s.pc.due tr = true)
      (hpin : PinDue tr s.pin sel pins)
  | tried (tr : Transport) {sel : List U32} {pins : List Nat} (h : s.Seeks c old sel pins) (hp : s.pc.tried tr = true)
      (hpin : PinTried tr s.pin sel pins)
  | ended (h : s.Searches c) (hp : s.pc.searchOver = true) (horder : s.SearchedInOrder c old)

theorem SearchPoint.searches (h : SearchPoint c old s) : s.Searches c := by
  cases h with
  | due _ h => exact h.toSearches
  | tried _ h => exact h.toSearches
  | ended h => exact h

theorem State.Seeks.inOrder (h : s.Seeks c old sel pins) (horder : SearchOrder sel pins) : s.SearchedInOrder c old :=
  ⟨sel, pins, h.events, horder, fun hv => absurd (h.noBlock.symm.trans hv) Bool.false_ne_true⟩

theorem SearchPoint.inOrder (h : SearchPoint c old s) : s.SearchedInOrder c old := by
  cases h with
  | due _ h _ hpin => exact h.inOrder hpin.order
  | tried _ h _ hpin => exact h.inOrder hpin.order
  | ended _ _ horder => exact horder

/-- The step of a phase whose rule is known. -/
theorem searchPoint_of_rule (hrule : blockStep s = .next u) (hb : blockStep s = .next t) (hu : SearchPoint c old u) :
    SearchPoint c old t :=
  Host.Outcome.next.inj (hrule.symm.trans hb) ▸ hu

/-- The end of an attempt: the block was found on the pin last touched, or the next pin follows. -/
theorem searchPoint_attemptEnd (h : s.Seeks c old sel pins) (hpin : PinTried tr s.pin sel pins) (o : AttemptOutcome) :
    SearchPoint c old (attemptEnd tr o s) := by
  by_cases ho : o = .found
  · subst ho
    rw [attemptEnd_of_searchOp h.command]
    exact .ended { h with } rfl ⟨sel, pins, h.events, hpin.order, fun _ => hpin.lastTouched⟩
  · rw [attemptEnd_of_failure h.command ho]
    exact .tried tr { h with } (by cases tr <;> rfl) hpin

/-- What the four waits do after their poll. -/
theorem searchPoint_afterPoll (h : s.Seeks c old sel pins) (hpin : PinTried .twoWire s.pin sel pins)
    (hp : s.pc.tried .twoWire = true) (o : TwPoll) (p : Phase) : SearchPoint c old (s.afterPoll o p) := by
  unfold State.afterPoll
  split
  -- A poll that says to wait stays; a bus error in `TW_WAIT_IDLE` ends the attempt; all else goes on with it.
  case h_1 => exact .tried .twoWire h hp hpin
  case h_6 => exact searchPoint_attemptEnd h hpin _
  all_goals exact .tried .twoWire { h with } rfl hpin

/-- The auxiliary channel is not touched while a two-wire pin is tried. -/
theorem PinDue.no_aux {pin : U8} (h : PinDue .twoWire pin sel pins) : pins = [] := by
  cases h
  rfl

theorem PinTried.no_aux {pin : U8} (h : PinTried .twoWire pin sel pins) : pins = [] := by
  cases h
  rfl

/-- The access that selects a pin. -/
theorem searchPoint_of_twSel (h : s.Seeks c old sel pins) (hp : s.pc = .twSel) (hpin : PinDue .twoWire s.pin sel pins)
    (hb : blockStep s = .next t) : SearchPoint c old t := by
  obtain rfl := h.cfg
  obtain rfl := hpin.no_aux
  exact searchPoint_of_rule (blockStep_twSel hp) hb (.tried .twoWire { h with events := h.events.select _ } rfl hpin.select)

/-- A word is stored only where the buffer has room for it. -/
theorem idx_of_twRdWord (hp : s.pc = .twRdWord) (hb : blockStep s = .next t) : s.idx.toNat + 4 ≤ 128 := by
  by_contra hidx
  simp [blockStep, hp, phaseTwRdWord, hidx] at hb

/-- A byte is stored only where the buffer has room for it. -/
theorem idx_of_axFetch (hp : s.pc = .axFetch) (hb : blockStep s = .next t) : s.idx.toNat < 128 := by
  by_contra hidx
  simp [blockStep, hp, phaseAxFetch, hidx] at hb

/-- The move to the next pin, on the same transport or on the other. -/
theorem searchPoint_of_nextPhase (h : s.Seeks c old sel pins) (hp : s.pc = nextPhase tr) (hpin : PinTried tr s.pin sel pins)
    (hb : blockStep s = .next t) : SearchPoint c old t := by
  by_cases hlt : s.pin.toNat < lastPin tr
  · exact searchPoint_of_rule (blockStep_nextPin hp hlt) hb (.due tr { h with } (by cases tr <;> rfl) (hpin.next hlt))
  · cases tr with
    | twoWire => exact searchPoint_of_rule (blockStep_fallback hp hlt) hb (.due .aux { h with } rfl (hpin.fallback hlt))
    | aux =>
      exact searchPoint_of_rule (blockStep_lastPinFailed hp hlt) hb (.ended { h with } rfl (h.inOrder hpin.order))

/-- The steps of a two-wire attempt after its pin has been selected, and the move to the next pin. -/
theorem searchPoint_of_twoWire (h : s.Seeks c old sel pins) (hp : s.pc.tried .twoWire = true)
    (hpin : PinTried .twoWire s.pin sel pins) (hb : blockStep s = .next t) : SearchPoint c old t := by
  obtain rfl := h.cfg
  obtain rfl := hpin.no_aux
  obtain ⟨hcommand, hdata⟩ := ne_twSelectOff h.cfgWf
  have hread {off v : U32} (hoff : off ∈ s.cfg.twOffsets) : SearchHistory s.cfg old (s.hist ++ [.rd32 off v]) sel [] :=
    h.events.read hoff
  have hwriteCommand {v : U32} : SearchHistory s.cfg old (s.hist ++ [.wr32 s.cfg.twCommandOff v]) sel [] :=
    h.events.write (by simp [Cfg.twOffsets]) hcommand
  obtain hw | hp | hp | hp | hp | hp | hp := Phase.tried_twoWire_iff.mp hp
  · have hpolled : s.twPolled.Seeks s.cfg old sel [] := { h with events := hread (by simp [Cfg.twOffsets]) }
    exact searchPoint_of_rule (blockStep_twWait hw) hb (searchPoint_afterPoll hpolled hpin ‹_› _ _)
  · exact searchPoint_of_rule (blockStep_twIdxData hp) hb
      (.tried .twoWire { h with events := h.events.write (by simp [Cfg.twOffsets]) hdata } rfl hpin)
  · exact searchPoint_of_rule (blockStep_twIdxCmd hp) hb (.tried .twoWire { h with events := hwriteCommand } rfl hpin)
  · exact searchPoint_of_rule (blockStep_twRdCmd hp) hb (.tried .twoWire { h with events := hwriteCommand } rfl hpin)
  · refine searchPoint_of_rule (blockStep_twRdWord hp (idx_of_twRdWord hp hb)) hb
      (.tried .twoWire { h with events := hread (by simp [Cfg.twOffsets]) } ?_ hpin)
    rw [State.goto_pc]
    split <;> rfl
  · exact searchPoint_of_rule (blockStep_twCheck hp) hb (searchPoint_attemptEnd h hpin _)
  · exact searchPoint_of_nextPhase (tr := .twoWire) h hp hpin hb

theorem PinDue.registers {pin : U8} (h : PinDue .aux pin sel pins) (c : Cfg) : ∃ a, c.auxPins[pin.toNat]? = some a := by
  cases h with
  | aux hpin => exact auxPin?_of_ok hpin

/-- The registers of an auxiliary pin that the block accesses. -/
theorem auxOffsets_mem_all (a : AuxOffsets) : a.ctl ∈ a.all ∧ a.data1 ∈ a.all ∧ a.data2 ∈ a.all := by
  simp [AuxOffsets.all]

/-- The step that begins an attempt on an auxiliary pin, and the first access of each transaction. -/
theorem searchPoint_of_auxDue (h : s.Seeks c old sel pins) (hp : s.pc = .axBegin ∨ s.pc = .axLoadHdr)
    (hpin : PinDue .aux s.pin sel pins) (hb : blockStep s = .next t) : SearchPoint c old t := by
  obtain rfl := h.cfg
  obtain hp | hp := hp
  · exact searchPoint_of_rule (blockStep_axBegin hp) hb (.due .aux { h with } rfl hpin)
  · obtain ⟨a, ha⟩ := hpin.registers s.cfg
    have hevents {v : U32} := h.events.aux (e := .wr32 a.data1 v) ⟨a, ha, _, (auxOffsets_mem_all a).2.1, rfl⟩
    exact searchPoint_of_rule (blockStep_axLoadHdr ha hp) hb
      (.tried .aux { h with events := hevents } (by cases s.auxOp <;> rfl) hpin.touch)

/-- After a transaction comes the next one, the fetch of a byte, or the end of the attempt. -/
theorem searchPoint_of_axAfter (h : s.Seeks c old sel pins) (hp : s.pc = .axAfter) (hpin : PinTried .aux s.pin sel pins)
    (hb : blockStep s = .next t) : SearchPoint c old t := by
  cases hop : s.auxOp with
  | indexWrite => exact searchPoint_of_rule (blockStep_axAfter_indexWrite hp hop) hb (.due .aux { h with } rfl hpin.due)
  | writeProbe =>
    cases he : auxError s.auxSt with
    | true => exact searchPoint_of_rule (blockStep_axAfter_probeError hp hop he) hb (searchPoint_attemptEnd h hpin _)
    | false => exact searchPoint_of_rule (blockStep_axAfter_probeGood hp hop he) hb (.due .aux { h with } rfl hpin.due)
  | readByte => exact searchPoint_of_rule (blockStep_axAfter_readByte hp hop) hb (.tried .aux { h with } rfl hpin)

/-- The steps of an auxiliary attempt after the first access to its pin, and the move to the next pin. -/
theorem searchPoint_of_aux (h : s.Seeks c old sel pins) (hp : s.pc.tried .aux = true) (hpin : PinTried .aux s.pin sel pins)
    (hb : blockStep s = .next t) : SearchPoint c old t := by
  obtain rfl := h.cfg
  obtain ⟨a, ha⟩ := hpin.due.registers s.cfg
  obtain ⟨hctl, hdata1, hdata2⟩ := auxOffsets_mem_all a
  have hevents {e : Event} {off : U32} (hoff : off ∈ a.all) (he : e.offset = some off) :
      SearchHistory s.cfg old (s.hist ++ [e]) sel (pins ++ [s.pin.toNat]) := h.events.aux ⟨a, ha, off, hoff, he⟩
  have htouched : PinTried .aux s.pin sel (pins ++ [s.pin.toNat]) := hpin.due.touch
  obtain hp | hp | hp | hp | hp | hp | hp | hp := Phase.tried_aux_iff.mp hp
  · exact searchPoint_of_rule (blockStep_axLoadData ha hp) hb (.tried .aux { h with events := hevents hdata2 rfl } rfl htouched)
  · exact searchPoint_of_rule (blockStep_axStart ha hp) hb (.tried .aux { h with events := hevents hctl rfl } rfl htouched)
  · refine searchPoint_of_rule (blockStep_axPoll ha hp) hb (.tried .aux { h with events := hevents hctl rfl } ?_ htouched)
    rw [State.polled]
    split <;> rfl
  · exact searchPoint_of_rule (blockStep_axClear ha hp) hb (.tried .aux { h with events := hevents hctl rfl } rfl htouched)
  · exact searchPoint_of_axAfter h hp hpin hb
  · have hfetch := blockStep_axFetch ha hp (idx_of_axFetch hp hb)
    split at hfetch
    · exact searchPoint_of_rule hfetch hb (.tried .aux { h with events := hevents hdata1 rfl } rfl htouched)
    · exact searchPoint_of_rule hfetch hb (.due .aux { h with events := hevents hdata1 rfl } rfl htouched.due)
  · exact searchPoint_of_rule (blockStep_axCheck hp) hb (searchPoint_attemptEnd h hpin _)
  · exact searchPoint_of_nextPhase (tr := .aux) h hp hpin hb

/-- After a search has ended nothing is added to the history, and what was found stays. -/
theorem searchPoint_of_ended (h : s.Searches c) (hp : s.pc.searchOver = true) (horder : s.SearchedInOrder c old)
    (hb : blockStep s = .next t) : SearchPoint c old t := by
  obtain hp | hp | hp | hp := Phase.searchOver_iff.mp hp
  · by_cases hop : s.cmdOp = Op.bringup
    · exact searchPoint_of_rule (blockStep_aqDone_bringup hp hop) hb (.ended { h with } rfl horder)
    · exact searchPoint_of_rule (blockStep_aqDone_acquire hp hop) hb (.ended { h with } rfl horder)
  · exact searchPoint_of_rule (blockStep_aqFail hp) hb (.ended { h with } rfl horder)
  · exact searchPoint_of_rule (blockStep_dcRun hp) hb (.ended { h with } rfl horder)
  · exact searchPoint_of_rule (blockStep_idle hp) hb (.ended h ‹_› horder)

/-- Every step of a search goes to another point of it. -/
theorem SearchPoint.step (h : SearchPoint c old s) (hstep : step s = .next t) : SearchPoint c old t := by
  obtain ⟨hcfg, hwf, hh, -⟩ := h.searches
  have hb : blockStep s = .next t := (step_block (hcfg ▸ hwf) hh).symm.trans hstep
  cases h with
  | due tr h hp hpin =>
    obtain ⟨rfl, hpc⟩ | ⟨rfl, hpc⟩ := Phase.due_iff.mp hp
    · exact searchPoint_of_twSel h hpc hpin hb
    · exact searchPoint_of_auxDue h hpc hpin hb
  | tried tr h hp hpin =>
    cases tr with
    | twoWire => exact searchPoint_of_twoWire h hp hpin hb
    | aux => exact searchPoint_of_aux h hp hpin hb
  | ended h hp horder => exact searchPoint_of_ended h hp horder hb

/-- What every step keeps holds after every run. -/
theorem run_keeps {P : State → Prop} (hstep : ∀ {s t : State}, P s → step s = .next t → P t) {n : Nat} (h : P s)
    (hrun : run n s = .next t) : P t := by
  induction n generalizing s with
  | zero => exact Host.Outcome.next.inj hrun ▸ h
  | succ n ih =>
    cases hs : step s with
    | next s' => exact ih (hstep h hs) ((run_succ hs).symm.trans hrun)
    | fault f => simp [run, hs] at hrun
    | refused r => simp [run, hs] at hrun

/-- Settles O37: a search starts with pin 2 due and nothing added, every step leads to another point of it, and in every point the
pins tried are in order. -/
theorem searchTriesPinsInOrder : Obligations.SearchTriesPinsInOrder := by
  intro s t u a0 a1 i n hwf hh hfree hi hissue hrun
  obtain ⟨op, hop, hstart⟩ := exec_search hfree hi
  obtain rfl := Host.Outcome.next.inj (hstart.symm.trans hissue)
  have hfirst : SearchPoint s.cfg s.hist (s.searchStarted op a0 a1) :=
    .due .twoWire ⟨searchStarted_searches hwf hh hop, rfl, .start⟩ rfl (.twoWire rfl)
  obtain ⟨sel, pins, ⟨tw, ax, hhist, htw, rfl, hax⟩, horder, hfound⟩ := (run_keeps SearchPoint.step hfirst hrun).inOrder
  refine ⟨tw, ax, pins, hhist, htw, onlyAt_auxOffsets hax, horder.twoWire, fun hne => horder.fallback ?_, hax, horder.ascending,
    horder.gapless, fun hv hft => ?_, fun hv hft => ?_⟩
  · rintro rfl
    cases hax
    exact hne rfl
  · obtain ⟨rfl, hlast⟩ : LastTouched .twoWire u.foundPin _ pins := hft ▸ hfound hv
    cases hax
    exact ⟨rfl, hlast⟩
  · exact (hft ▸ hfound hv : LastTouched .aux u.foundPin _ pins)

end Order

end Sys2Proof.Machine
end

section
/-! PROOFS. The family 44_decoder.md: the fields of the descriptor and their round-trip law (R98, R99, R198), the bounds that keep
every sum of the decoder from overflowing (R197), phase `DC_RUN` (R192 to R195, R199) and `DECODE` as a whole (R190, R200).

A field joined of two parts is the concatenation of its parts, widened. So each part is read back by extraction, a field in its
range is joined again of its extracted parts, and the width of the parts bounds the field. -/

namespace Sys2Proof.Machine

variable {s : State} {c : Cfg} {block : Vector U8 128} {f : DescriptorFields} {n b : Nat}

/-! ## A field joined of two parts -/

theorem joinField_eq_append (lo : BitVec n) (hi : BitVec b) : joinField lo hi n = zext 32 (hi ++ lo) := by
  rw [joinField, zext, zext, zext, BitVec.setWidth_append_eq_shiftLeft_setWidth_or, BitVec.or_comm]

theorem extractLsb'_joinField_low (lo : BitVec n) (hi : BitVec b) (hn : n ≤ 32) : (joinField lo hi n).extractLsb' 0 n = lo := by
  rw [joinField_eq_append, BitVec.extractLsb'_setWidth_of_le (by omega), BitVec.extractLsb'_append_eq_right]

theorem extractLsb'_joinField_high (lo : BitVec n) (hi : BitVec b) (hnb : n + b ≤ 32) :
    (joinField lo hi n).extractLsb' n b = hi := by
  rw [joinField_eq_append, BitVec.extractLsb'_setWidth_of_le hnb, BitVec.extractLsb'_append_eq_left]

theorem joinField_toNat_lt (lo : BitVec n) (hi : BitVec b) : (joinField lo hi n).toNat < 2 ^ (b + n) := by
  rw [joinField_eq_append, BitVec.toNat_setWidth]
  exact Nat.lt_of_le_of_lt (Nat.mod_le ..) (hi ++ lo).isLt

theorem joinField_extractLsb' {v : U32} (hv : v.toNat < 2 ^ (b + n)) :
    joinField (v.extractLsb' 0 n) (v.extractLsb' n b) n = v := by
  apply BitVec.eq_of_toNat_eq
  rw [joinField_eq_append, BitVec.extractLsb'_append_extractLsb'_eq_extractLsb' (Nat.zero_add n).symm, BitVec.toNat_setWidth,
    BitVec.extractLsb'_toNat, Nat.shiftRight_zero, Nat.mod_eq_of_lt hv, Nat.mod_eq_of_lt v.isLt]

/-! ## The bytes that hold parts of several fields -/

theorem nibbles_append (d : U8) : bits 7 4 d ++ bits 3 0 d = d :=
  (BitVec.extractLsb'_append_extractLsb'_eq_extractLsb' rfl).trans BitVec.extractLsb'_eq_self

theorem pairs_append (d : U8) : bits 7 6 d ++ bits 5 4 d ++ bits 3 2 d ++ bits 1 0 d = d := by
  have h74 : bits 7 6 d ++ bits 5 4 d = bits 7 4 d := BitVec.extractLsb'_append_extractLsb'_eq_extractLsb' rfl
  have h72 : bits 7 4 d ++ bits 3 2 d = bits 7 2 d := BitVec.extractLsb'_append_extractLsb'_eq_extractLsb' rfl
  have h70 : bits 7 2 d ++ bits 1 0 d = bits 7 0 d := BitVec.extractLsb'_append_extractLsb'_eq_extractLsb' rfl
  simp only [h74, h72, h70]
  exact BitVec.extractLsb'_eq_self

theorem pairs_of_append (p q r t : BitVec 2) :
    bits 7 6 (p ++ q ++ r ++ t) = p ∧ bits 5 4 (p ++ q ++ r ++ t) = q ∧ bits 3 2 (p ++ q ++ r ++ t) = r ∧
    bits 1 0 (p ++ q ++ r ++ t) = t := by
  refine ⟨?_, ?_, ?_, BitVec.extractLsb'_append_eq_right⟩
  · exact (BitVec.extractLsb'_append_eq_of_le (by decide)).trans
      ((BitVec.extractLsb'_append_eq_of_le (by decide)).trans BitVec.extractLsb'_append_eq_left)
  · exact (BitVec.extractLsb'_append_eq_of_le (by decide)).trans
      ((BitVec.extractLsb'_append_eq_of_le (by decide)).trans BitVec.extractLsb'_append_eq_right)
  · exact (BitVec.extractLsb'_append_eq_of_le (by decide)).trans BitVec.extractLsb'_append_eq_right

/-! ## The round-trip law (R198) -/

theorem packDescriptor_unpackDescriptor (d : DescriptorBytes) : packDescriptor (unpackDescriptor d) = d := by
  have hbyteLow {b : Nat} (lo : U8) (hi : BitVec b) : bits 7 0 (joinField lo hi 8) = lo :=
    extractLsb'_joinField_low lo hi (by decide)
  have hbyteHigh (lo hi : U8) : bits 15 8 (joinField lo hi 8) = hi := extractLsb'_joinField_high lo hi (by decide)
  have hnibbleHigh (lo : U8) (hi : BitVec 4) : bits 11 8 (joinField lo hi 8) = hi :=
    extractLsb'_joinField_high lo hi (by decide)
  have hpairHigh (lo : U8) (hi : BitVec 2) : bits 9 8 (joinField lo hi 8) = hi :=
    extractLsb'_joinField_high lo hi (by decide)
  have hvSyncLow (lo : BitVec 4) (hi : BitVec 2) : bits 3 0 (joinField lo hi 4) = lo :=
    extractLsb'_joinField_low lo hi (by decide)
  have hvSyncHigh (lo : BitVec 4) (hi : BitVec 2) : bits 5 4 (joinField lo hi 4) = hi :=
    extractLsb'_joinField_high lo hi (by decide)
  simp only [packDescriptor, unpackDescriptor, hbyteLow, hbyteHigh, hnibbleHigh, hpairHigh, hvSyncLow, hvSyncHigh,
    nibbles_append, pairs_append]

/-- The ranges of the fields (R193). -/
structure DescriptorFields.InRange (f : DescriptorFields) : Prop where
  pixclkRaw : f.pixclkRaw.toNat < 65536
  hActive : f.hActive.toNat < 4096
  hBlank : f.hBlank.toNat < 4096
  vActive : f.vActive.toNat < 4096
  vBlank : f.vBlank.toNat < 4096
  hSyncOff : f.hSyncOff.toNat < 1024
  hSyncPulse : f.hSyncPulse.toNat < 1024
  vSyncOff : f.vSyncOff.toNat < 64
  vSyncPulse : f.vSyncPulse.toNat < 64

theorem unpackDescriptor_inRange (d : DescriptorBytes) : (unpackDescriptor d).InRange :=
  ⟨joinField_toNat_lt .., joinField_toNat_lt .., joinField_toNat_lt .., joinField_toNat_lt .., joinField_toNat_lt ..,
    joinField_toNat_lt .., joinField_toNat_lt .., joinField_toNat_lt .., joinField_toNat_lt ..⟩

theorem unpackDescriptor_packDescriptor (hf : f.InRange) : unpackDescriptor (packDescriptor f) = f := by
  obtain ⟨hclk, hhAct, hhBlank, hvAct, hvBlank, hhOff, hhPulse, hvOff, hvPulse⟩ := hf
  obtain ⟨h76, h54, h32, h10⟩ :=
    pairs_of_append (bits 9 8 f.hSyncOff) (bits 9 8 f.hSyncPulse) (bits 5 4 f.vSyncOff) (bits 5 4 f.vSyncPulse)
  have hnibbleHigh {x y : BitVec 4} : bits 7 4 (x ++ y) = x := BitVec.extractLsb'_append_eq_left
  have hnibbleLow {x y : BitVec 4} : bits 3 0 (x ++ y) = y := BitVec.extractLsb'_append_eq_right
  have hfield {v : U32} (hv : v.toNat < 4096) : joinField (bits 7 0 v) (bits 11 8 v) 8 = v := joinField_extractLsb' hv
  have hhSync {v : U32} (hv : v.toNat < 1024) : joinField (bits 7 0 v) (bits 9 8 v) 8 = v := joinField_extractLsb' hv
  have hvSync {v : U32} (hv : v.toNat < 64) : joinField (bits 3 0 v) (bits 5 4 v) 4 = v := joinField_extractLsb' hv
  have hclock : joinField (bits 7 0 f.pixclkRaw) (bits 15 8 f.pixclkRaw) 8 = f.pixclkRaw := joinField_extractLsb' hclk
  simp only [packDescriptor, unpackDescriptor, hnibbleHigh, hnibbleLow, h76, h54, h32, h10, hclock,
    hfield hhAct, hfield hhBlank, hfield hvAct, hfield hvBlank, hhSync hhOff, hhSync hhPulse, hvSync hvOff, hvSync hvPulse]

/-- Settles O40: the places are those of the definition, and each way round the parts of a field are read back as they were put. -/
theorem descriptorRoundTrip : Obligations.DescriptorRoundTrip :=
  ⟨fun _ => rfl, packDescriptor_unpackDescriptor, fun _ hclk hhAct hhBlank hvAct hvBlank hhOff hhPulse hvOff hvPulse =>
    unpackDescriptor_packDescriptor ⟨hclk, hhAct, hhBlank, hvAct, hvBlank, hhOff, hhPulse, hvOff, hvPulse⟩⟩

/-! ## The sums of the decoder (R194, R195, R197) -/

/-- The sums of one axis; the vertical sync fields are narrower still than the horizontal ones. -/
theorem axisSums_toNat {active blank off pulse : U32} (ha : active.toNat < 4096) (hb : blank.toNat < 4096)
    (ho : off.toNat < 1024) (hp : pulse.toNat < 1024) :
    (active + off).toNat = active.toNat + off.toNat ∧
    (active + off + pulse).toNat = active.toNat + off.toNat + pulse.toNat ∧
    (active + blank).toNat = active.toNat + blank.toNat := by
  have hstart : (active + off).toNat = active.toNat + off.toNat := BitVec.toNat_add_of_lt (by omega)
  refine ⟨hstart, ?_, BitVec.toNat_add_of_lt (by omega)⟩
  rw [BitVec.toNat_add_of_lt (by omega), hstart]

/-- Settles O41: the ranges of the fields bound every sum far below 2³², so each is the sum of the numbers. -/
theorem decodedTimingIsBounded : Obligations.DecodedTimingIsBounded := by
  rintro c block t f hf rfl
  have ht : decodeTiming c block = timingOf f := congrArg timingOf hf.symm
  obtain ⟨hclk, hhAct, hhBlank, hvAct, hvBlank, hhOff, hhPulse, hvOff, hvPulse⟩ : f.InRange := hf ▸ unpackDescriptor_inRange _
  obtain ⟨hhStart, hhEnd, hhTotal⟩ := axisSums_toNat hhAct hhBlank hhOff hhPulse
  obtain ⟨hvStart, hvEnd, hvTotal⟩ :=
    axisSums_toNat hvAct hvBlank (off := f.vSyncOff) (pulse := f.vSyncPulse) (by omega) (by omega)
  have hclock : (f.pixclkRaw * 10).toNat = f.pixclkRaw.toNat * 10 :=
    BitVec.toNat_mul_of_lt (show f.pixclkRaw.toNat * 10 < 2 ^ 32 by omega)
  rw [ht]
  refine ⟨?_, ?_, ?_, ?_, ?_, ?_, ?_, ?_, ?_, rfl, hhStart, rfl, hvStart, hhEnd, hhTotal, hvEnd, hvTotal, hclock⟩ <;>
    simp only [timingOf] <;> omega

/-! ## Phase `DC_RUN` (R192 to R195, R199) -/

theorem descriptorByte_of_getElem? {k : Nat} {d : U8} (h : block[c.dtdOff + k]? = some d) : descriptorByte c block k = d := by
  rw [descriptorByte, h]; rfl

theorem descriptorBytes_of_getElem? {D : Nat → U8} (h : ∀ k, k < 12 → block[c.dtdOff + k]? = some (D k)) :
    descriptorBytes c block = ⟨D 0, D 1, D 2, D 3, D 4, D 5, D 6, D 7, D 8, D 9, D 10, D 11⟩ := by
  have hbyte (k : Nat) (hk : k < 12) : descriptorByte c block k = D k := descriptorByte_of_getElem? (h k hk)
  simp (disch := decide) only [descriptorBytes, hbyte]

/-- The whole of phase `DC_RUN`. -/
theorem phaseDcRun_of_timing {t : TimingSet} (ht : decodeTiming s.cfg s.edid = t) : phaseDcRun s =
    { s with
      timing := t, timingValid := true, tblHres := t.hActive, tblVres := t.vActive, result := .ok, busy := false, pc := .idle
      resultInfo := if s.cmdOp = Op.bringup then foundInfo s else resolutionInfo t.hActive t.vActive } := by
  subst ht; rfl

/-- Settles O38: the timing set is that of the twelve bytes. -/
theorem decoderWritesTheTimingSetOfTheBlock : Obligations.DecoderWritesTheTimingSetOfTheBlock := by
  rintro s D _ _ _ _ _ _ _ _ _ hp hD rfl rfl rfl rfl rfl rfl rfl rfl rfl
  have ht : decodeTiming s.cfg s.edid =
      timingOf (unpackDescriptor ⟨D 0, D 1, D 2, D 3, D 4, D 5, D 6, D 7, D 8, D 9, D 10, D 11⟩) := by
    rw [decodeTiming, descriptorBytes_of_getElem? hD]
  rw [blockStep_dcRun hp, phaseDcRun_of_timing ht]
  rfl

/-! ## `DECODE` from issue to end (R190, R200) -/

theorem step_dcRun (hwf : s.cfg.wf = true) (hh : s.hostIn = []) (hp : s.pc = .dcRun) : step s = .next (phaseDcRun s) :=
  (step_block hwf hh).trans (blockStep_dcRun hp)

/-- Settles O39: issue leads to `DC_RUN`, whose one step decodes the block. -/
theorem decodeCommandCompletes : Obligations.DecodeCommandCompletes := by
  intro s a0 a1 hwf hh hfree hv
  obtain ⟨hissue, -, -⟩ := decodeApplyAndModeQueryStart s a0 a1 hfree
  exact ⟨_, _, hissue hv, step_dcRun hwf hh rfl, rfl, rfl, rfl, rfl, rfl, rfl, rfl, hv, rfl, rfl, rfl⟩

end Sys2Proof.Machine
end

section
/-! PROOFS. The family 45_sequencer.md: `NOP` and `MODE_QUERY` (R233, R235), the phases of `APPLY` with their whole states (R212 to
R226), the wait for the pipe (R219), and `APPLY` run whole (R210, R228).

Each phase has one rule that gives its whole next state. The wait is an induction over the answers without the active bit, and
`APPLY` is five runs put one after the other: the timing registers, the enabling of the pipe, the wait, the plane registers, the
publish exchange. -/

namespace Sys2Proof.Machine

variable {s : State} {v c0 last : U32} {vs polls : List U32} {ds : List U64} {ps : List PublishAnswer}

/-! ## `NOP` and `MODE_QUERY` (R233, R235) -/

/-- Settles O10: the word 0 is the command word of `NOP`, and a free block answers it at issue. -/
theorem nopOnlyAnswersOk : Obligations.NopOnlyAnswersOk :=
  fun _ _ _ hfree => ⟨decodeCommand_commandWord (op := Op.nop) (pin := 0) rfl rfl, State.unlessBusy_of_free hfree _⟩

/-- The whole of phase `MQ_RUN`. -/
theorem blockStep_mqRun (hp : s.pc = .mqRun) : blockStep s = .next (s.finish .ok (modeTableInfo s)) := by
  rw [blockStep, hp]; rfl

/-- Settles O48: issue leads to `MQ_RUN`, whose one step reports the mode table. -/
theorem modeQueryReportsTheModeTable : Obligations.ModeQueryReportsTheModeTable := by
  intro s a0 a1 hwf hh hfree
  obtain ⟨-, -, hissue⟩ := decodeApplyAndModeQueryStart s a0 a1 hfree
  refine ⟨decodeCommand_commandWord (op := Op.modeQuery) (pin := 0) rfl rfl,
    s.accept Op.modeQuery 0 a0 a1 .mqRun, hissue, rfl, ?step⟩
  case step => exact (step_accept hwf hh).trans (blockStep_mqRun rfl)

/-! ## The sync-shift and timing phases (R212, R213) -/

theorem writePhase_eq (off v : U32) (q : Phase) :
    writePhase s off v q = { s with pc := q, hist := s.hist ++ [.wr32 off v] } := rfl

theorem blockStep_apShift (hp : s.pc = .apShift) : blockStep s = .next (writePhase s s.cfg.syncShiftOff 0 .apHtotal) := by
  rw [blockStep, hp]; rfl

theorem blockStep_apHtotal (hp : s.pc = .apHtotal) :
    blockStep s = .next (writePhase s s.cfg.htotalOff (timingWord s.timing.hActive s.timing.hTotal) .apHblank) := by
  rw [blockStep, hp]; rfl

theorem blockStep_apHblank (hp : s.pc = .apHblank) :
    blockStep s = .next (writePhase s s.cfg.hblankOff (timingWord s.timing.hActive s.timing.hTotal) .apHsync) := by
  rw [blockStep, hp]; rfl

theorem blockStep_apHsync (hp : s.pc = .apHsync) :
    blockStep s = .next (writePhase s s.cfg.hsyncOff (timingWord s.timing.hSyncStart s.timing.hSyncEnd) .apVtotal) := by
  rw [blockStep, hp]; rfl

theorem blockStep_apVtotal (hp : s.pc = .apVtotal) :
    blockStep s = .next (writePhase s s.cfg.vtotalOff (timingWord s.timing.vActive s.timing.vTotal) .apVblank) := by
  rw [blockStep, hp]; rfl

theorem blockStep_apVblank (hp : s.pc = .apVblank) :
    blockStep s = .next (writePhase s s.cfg.vblankOff (timingWord s.timing.vActive s.timing.vTotal) .apVsync) := by
  rw [blockStep, hp]; rfl

theorem blockStep_apVsync (hp : s.pc = .apVsync) :
    blockStep s = .next (writePhase s s.cfg.vsyncOff (timingWord s.timing.vSyncStart s.timing.vSyncEnd) .apConfRd) := by
  rw [blockStep, hp]; rfl

/-- Settles O42: the statement is the rules of the seven phases. -/
theorem sequencerWritesTheTimingRegisters : Obligations.SequencerWritesTheTimingRegisters :=
  fun _ => ⟨blockStep_apShift, blockStep_apHtotal, blockStep_apHblank, blockStep_apHsync, blockStep_apVtotal, blockStep_apVblank,
    blockStep_apVsync⟩

/-- The writes of a timing set to the pipe's registers. -/
def timingEvents (c : Cfg) (t : TimingSet) : List Event :=
  [.wr32 c.syncShiftOff 0, .wr32 c.htotalOff (timingWord t.hActive t.hTotal), .wr32 c.hblankOff (timingWord t.hActive t.hTotal),
   .wr32 c.hsyncOff (timingWord t.hSyncStart t.hSyncEnd), .wr32 c.vtotalOff (timingWord t.vActive t.vTotal),
   .wr32 c.vblankOff (timingWord t.vActive t.vTotal), .wr32 c.vsyncOff (timingWord t.vSyncStart t.vSyncEnd)]

theorem run_apShift (hwf : s.cfg.wf = true) (hh : s.hostIn = []) (hp : s.pc = .apShift) :
    run 7 s = .next { s with pc := .apConfRd, hist := s.hist ++ timingEvents s.cfg s.timing } := by
  refine Eq.trans (run_succ_block hwf hh (blockStep_apShift hp)) ?_
  refine Eq.trans (run_succ_block hwf hh (blockStep_apHtotal rfl)) ?_
  refine Eq.trans (run_succ_block hwf hh (blockStep_apHblank rfl)) ?_
  refine Eq.trans (run_succ_block hwf hh (blockStep_apHsync rfl)) ?_
  refine Eq.trans (run_succ_block hwf hh (blockStep_apVtotal rfl)) ?_
  refine Eq.trans (run_succ_block hwf hh (blockStep_apVblank rfl)) ?_
  refine Eq.trans (run_succ_block hwf hh (blockStep_apVsync rfl)) ?_
  simp [run, writePhase_eq, timingEvents]

/-! ## The enabling of the pipe (R217, R218) -/

/-- The whole of phase `AP_CONF_RD`. -/
theorem blockStep_apConfRd (hp : s.pc = .apConfRd) :
    blockStep s = .next ({ s.read32 s.cfg.pipeconfOff with confTmp := s.read32Value s.cfg.pipeconfOff }.goto .apConfWr) := by
  rw [blockStep, hp]; rfl

theorem blockStep_apConfRd_of_script (hp : s.pc = .apConfRd) (hd : s.devIn = zext 64 v :: ds) :
    blockStep s = .next ({ s.heard s.cfg.pipeconfOff v ds with confTmp := v }.goto .apConfWr) := by
  rw [blockStep_apConfRd hp, State.read32_of_script hd, State.read32Value_of_script hd, zext_zext_answer]

/-- The whole of phase `AP_CONF_WR`. -/
theorem blockStep_apConfWr (hp : s.pc = .apConfWr) :
    blockStep s = .next (writePhase s s.cfg.pipeconfOff (s.confTmp ||| s.cfg.pipeconfEnable) .apConfPoll) := by
  rw [blockStep, hp]; rfl

/-- Settles O43: the value read is the device's answer; the clauses are the rules of the two phases. -/
theorem sequencerEnablesThePipe : Obligations.SequencerEnablesThePipe :=
  fun s => ⟨fun hp => ⟨s.read32Value s.cfg.pipeconfOff, fun _ _ hd => State.read32Value_of_script hd _, blockStep_apConfRd hp⟩,
    blockStep_apConfWr⟩

/-- The accesses of the read-modify-write whose read is answered with `v`. -/
def enableEvents (c : Cfg) (v : U32) : List Event := [.rd32 c.pipeconfOff v, .wr32 c.pipeconfOff (v ||| c.pipeconfEnable)]

theorem run_apConfRd (hwf : s.cfg.wf = true) (hh : s.hostIn = []) (hp : s.pc = .apConfRd) (hd : s.devIn = zext 64 v :: ds) :
    run 2 s = .next { s with
      confTmp := v, pc := .apConfPoll, hist := s.hist ++ enableEvents s.cfg v, devIn := ds, freeCount := s.freeCount + 1 } := by
  refine Eq.trans (run_succ_block hwf hh (blockStep_apConfRd_of_script hp hd)) ?_
  refine Eq.trans (run_succ_block hwf hh (blockStep_apConfWr rfl)) ?_
  simp [run, writePhase_eq, State.heard, State.goto, enableEvents]

/-! ## The wait for the pipe (R219) -/

theorem pipeActive_iff {c : Cfg} : pipeActive c v = true ↔ v &&& c.pipeconfActive ≠ 0 := bne_iff_ne

/-- The whole of phase `AP_CONF_POLL`. -/
theorem blockStep_apConfPoll (hp : s.pc = .apConfPoll) :
    blockStep s = .next ((s.read32 s.cfg.pipeconfOff).goto
      (if pipeActive s.cfg (s.read32Value s.cfg.pipeconfOff) then .apPlOffset else .apConfPoll)) := by
  rw [blockStep, hp]; rfl

theorem blockStep_apConfPoll_inactive (hp : s.pc = .apConfPoll) (hv : v &&& s.cfg.pipeconfActive = 0)
    (hd : s.devIn = zext 64 v :: ds) : blockStep s = .next (s.heard s.cfg.pipeconfOff v ds) := by
  have hstay : (s.heard s.cfg.pipeconfOff v ds).goto .apConfPoll = s.heard s.cfg.pipeconfOff v ds := State.goto_self hp
  rw [blockStep_apConfPoll hp, State.read32_of_script hd, State.read32Value_of_script hd, zext_zext_answer,
    if_neg (mt pipeActive_iff.mp (not_not.mpr hv)), hstay]

theorem blockStep_apConfPoll_active (hp : s.pc = .apConfPoll) (hv : v &&& s.cfg.pipeconfActive ≠ 0)
    (hd : s.devIn = zext 64 v :: ds) : blockStep s = .next ((s.heard s.cfg.pipeconfOff v ds).goto .apPlOffset) := by
  rw [blockStep_apConfPoll hp, State.read32_of_script hd, State.read32Value_of_script hd, zext_zext_answer,
    if_pos (pipeActive_iff.mpr hv)]

/-- The block polls on as long as the pipe is not active, by induction on the answers. -/
theorem run_apConfPoll_inactive (hwf : s.cfg.wf = true) (hh : s.hostIn = []) (hp : s.pc = .apConfPoll)
    (hvs : ∀ v ∈ vs, v &&& s.cfg.pipeconfActive = 0) (hd : s.devIn = answers vs ++ ds) :
    run vs.length s = .next { s with
      hist := s.hist ++ reads s.cfg.pipeconfOff vs, devIn := ds, freeCount := s.freeCount + vs.length } := by
  induction vs generalizing s with
  | nil =>
    obtain rfl : s.devIn = ds := hd
    simp [run, reads]
  | cons v vs ih =>
    obtain ⟨hv, hvs⟩ := List.forall_mem_cons.mp hvs
    have hstep : blockStep s = .next (s.heard s.cfg.pipeconfOff v (answers vs ++ ds)) :=
      blockStep_apConfPoll_inactive hp hv hd
    rw [List.length_cons, run_succ_block hwf hh hstep, ih (s := s.heard _ _ _) hwf hh hp hvs rfl]
    simp [State.heard, reads, Nat.add_assoc, Nat.add_comm 1]

theorem run_apConfPoll (hwf : s.cfg.wf = true) (hh : s.hostIn = []) (hp : s.pc = .apConfPoll)
    (hpolls : ∀ v ∈ polls, v &&& s.cfg.pipeconfActive = 0) (hlast : last &&& s.cfg.pipeconfActive ≠ 0)
    (hd : s.devIn = answers (polls ++ [last]) ++ ds) :
    run (polls.length + 1) s = .next { s with
      pc := .apPlOffset, hist := s.hist ++ reads s.cfg.pipeconfOff (polls ++ [last]), devIn := ds,
      freeCount := s.freeCount + polls.length + 1 } := by
  rw [answers_append, List.append_assoc] at hd
  refine Eq.trans (run_add 1 (run_apConfPoll_inactive hwf hh hp hpolls hd)) ?_
  refine Eq.trans (run_succ_block hwf hh (blockStep_apConfPoll_active hp hlast rfl)) ?_
  simp [run, State.heard, State.goto, reads]

/-- Settles O44: the polls without the active bit leave the block polling, and the one with the bit ends the wait. -/
theorem pipePollWaitsForTheActiveBit : Obligations.PipePollWaitsForTheActiveBit := by
  intro s vs last rest hwf hh hp hvs hd
  refine ⟨run_apConfPoll_inactive hwf hh hp hvs ?_, fun hlast => run_apConfPoll hwf hh hp hvs hlast hd⟩
  rw [hd, answers_append, List.append_assoc]

/-! ## The plane phases (R220 to R224) -/

theorem blockStep_apPlOffset (hp : s.pc = .apPlOffset) :
    blockStep s = .next (writePhase s s.cfg.planeOffsetOff 0 .apPlStride) := by
  rw [blockStep, hp]; rfl

theorem blockStep_apPlStride (hp : s.pc = .apPlStride) :
    blockStep s = .next (writePhase s s.cfg.planeStrideOff (planeStrideWord s.timing.hActive) .apPlSize) := by
  rw [blockStep, hp]; rfl

theorem blockStep_apPlSize (hp : s.pc = .apPlSize) :
    blockStep s = .next (writePhase s s.cfg.planeSizeOff (timingWord s.timing.hActive s.timing.vActive) .apPlSurf) := by
  rw [blockStep, hp]; rfl

theorem blockStep_apPlSurf (hp : s.pc = .apPlSurf) :
    blockStep s = .next (writePhase s s.cfg.planeSurfOff (surfaceWord s.arg0 s.arg1) .apPlCtl) := by
  rw [blockStep, hp]; rfl

/-- The whole of phase `AP_PL_CTL`, the one plane phase that also writes a register of the block. -/
theorem blockStep_apPlCtl (hp : s.pc = .apPlCtl) :
    blockStep s = .next
      { writePhase s s.cfg.planeCtlOff s.cfg.planeCtlValue .apPublish with mode := modeOf s.timing s.arg0 } := by
  rw [blockStep, hp]; rfl

/-- Settles O45: the statement is the rules of the five phases. -/
theorem sequencerProgramsThePlane : Obligations.SequencerProgramsThePlane :=
  fun _ => ⟨blockStep_apPlOffset, blockStep_apPlStride, blockStep_apPlSize, blockStep_apPlSurf, blockStep_apPlCtl⟩

/-- The writes to the plane's registers, for a timing set and the operands of `APPLY`. -/
def planeEvents (c : Cfg) (t : TimingSet) (fbBase apBase : U64) : List Event :=
  [.wr32 c.planeOffsetOff 0, .wr32 c.planeStrideOff (planeStrideWord t.hActive),
   .wr32 c.planeSizeOff (timingWord t.hActive t.vActive), .wr32 c.planeSurfOff (surfaceWord fbBase apBase),
   .wr32 c.planeCtlOff c.planeCtlValue]

theorem run_apPlOffset (hwf : s.cfg.wf = true) (hh : s.hostIn = []) (hp : s.pc = .apPlOffset) :
    run 5 s = .next { s with
      mode := modeOf s.timing s.arg0, pc := .apPublish, hist := s.hist ++ planeEvents s.cfg s.timing s.arg0 s.arg1 } := by
  refine Eq.trans (run_succ_block hwf hh (blockStep_apPlOffset hp)) ?_
  refine Eq.trans (run_succ_block hwf hh (blockStep_apPlStride rfl)) ?_
  refine Eq.trans (run_succ_block hwf hh (blockStep_apPlSize rfl)) ?_
  refine Eq.trans (run_succ_block hwf hh (blockStep_apPlSurf rfl)) ?_
  refine Eq.trans (run_succ_block hwf hh (blockStep_apPlCtl rfl)) ?_
  simp [run, writePhase_eq, planeEvents]

/-! ## The publish exchange and the grow request (R225, R226) -/

theorem State.publishAnswer_of_script {a : PublishAnswer} (h : s.publishIn = a :: ps) : s.publishAnswer = a := by
  rw [State.publishAnswer, h]

theorem State.growAnswer_of_script {a : GrowAnswer} {gs : List GrowAnswer} (h : s.growIn = a :: gs) : s.growAnswer = a := by
  rw [State.growAnswer, h]

theorem blockStep_apPublish_ok (hp : s.pc = .apPublish) (ha : s.publishAnswer = .ok) :
    blockStep s = .next ({ s.publish with configured := true }.finish .ok s.mode.stride) := by
  simp only [blockStep, hp, phaseApPublish, ha]

theorem blockStep_apPublish_ok_of_script (hp : s.pc = .apPublish) (h : s.publishIn = .ok :: ps) :
    blockStep s = .next ({ s with
      publishIn := ps, freeCount := s.freeCount + 1, configured := true,
      hist := s.hist ++ [Event.publish s.publishRecord .ok] }.finish .ok s.mode.stride) := by
  have ha : s.publishAnswer = .ok := State.publishAnswer_of_script h
  rw [blockStep_apPublish_ok hp ha, State.publish, ha, h]
  rfl

theorem blockStep_apPublish_tooSmall (hp : s.pc = .apPublish) (ha : s.publishAnswer = .tooSmall) (hg : s.grown = false) :
    blockStep s = .next (s.publish.goto .apGrow) := by
  simp [blockStep, hp, phaseApPublish, ha, hg]

/-- Any other failure is fatal: an error, or a buffer still too small after it was grown. -/
theorem blockStep_apPublish_failed (hp : s.pc = .apPublish)
    (ha : s.publishAnswer = .error ∨ s.publishAnswer = .tooSmall ∧ s.grown = true) :
    blockStep s = .next (s.publish.finish .publishFailed 0) := by
  obtain ha | ⟨ha, hg⟩ := ha
  · simp only [blockStep, hp, phaseApPublish, ha]
  · simp only [blockStep, hp, phaseApPublish, ha, hg, if_true]

theorem blockStep_apGrow_ok (hp : s.pc = .apGrow) (ha : s.growAnswer = .ok) :
    blockStep s = .next ({ s.grow with grown := true }.goto .apPublish) := by
  simp only [blockStep, hp, phaseApGrow, ha]

theorem blockStep_apGrow_fail (hp : s.pc = .apGrow) (ha : s.growAnswer = .fail) :
    blockStep s = .next ({ s.grow with grown := true }.finish .resourceExhaustion 0) := by
  simp only [blockStep, hp, phaseApGrow, ha]

/-- Settles O46: the answers are the host's; the clauses are the rules of the two phases, one per answer. -/
theorem publishGrowsOnceAndElseEnds : Obligations.PublishGrowsOnceAndElseEnds := by
  refine fun s => ⟨s.publishAnswer, s.growAnswer, ?_⟩
  rintro _ _ rfl rfl
  exact ⟨fun _ _ => State.publishAnswer_of_script, fun _ _ => State.growAnswer_of_script, blockStep_apPublish_ok,
    blockStep_apPublish_tooSmall, blockStep_apPublish_failed, blockStep_apGrow_ok, blockStep_apGrow_fail⟩

/-! ## `APPLY` run whole (R210, R228) -/

/-- The events of an `APPLY` whose read-modify-write is answered with `c0`, its polls with `vs` and its publish exchange with
`CFG_OK`. -/
def applyEvents (c : Cfg) (t : TimingSet) (fbBase apBase : U64) (c0 : U32) (vs : List U32) : List Event :=
  timingEvents c t ++ enableEvents c c0 ++ reads c.pipeconfOff vs ++ planeEvents c t fbBase apBase ++
  [.publish { hres := t.hActive, vres := t.vActive, stride := stride t.hActive, base := fbBase,
              size := stride t.hActive * t.vActive, format := .fmt32bppPacked } .ok]

theorem applyEvents_length (c : Cfg) (t : TimingSet) (fbBase apBase : U64) :
    (applyEvents c t fbBase apBase c0 vs).length = 15 + vs.length := by
  simp only [applyEvents, timingEvents, enableEvents, planeEvents, reads, List.length_append, List.length_map,
    List.length_cons, List.length_nil]
  omega

/-- The state in which such an `APPLY` ends: the answers `ds` and `ps` are left. -/
def State.applied (s : State) (c0 : U32) (vs : List U32) (ds : List U64) (ps : List PublishAnswer) : State :=
  { s with
    confTmp := c0, mode := modeOf s.timing s.arg0, configured := true, result := .ok, resultInfo := stride s.timing.hActive,
    busy := false, pc := .idle, hist := s.hist ++ applyEvents s.cfg s.timing s.arg0 s.arg1 c0 vs, devIn := ds, publishIn := ps,
    freeCount := s.freeCount + (vs.length + 2) }

theorem run_apply (hwf : s.cfg.wf = true) (hh : s.hostIn = []) (hp : s.pc = .apShift)
    (hpolls : ∀ v ∈ polls, v &&& s.cfg.pipeconfActive = 0) (hlast : last &&& s.cfg.pipeconfActive ≠ 0)
    (hd : s.devIn = answers ([c0] ++ polls ++ [last]) ++ ds) (hpub : s.publishIn = .ok :: ps) :
    run (16 + polls.length) s = .next (s.applied c0 (polls ++ [last]) ds ps) := by
  have hsteps : 16 + polls.length = 7 + (2 + ((polls.length + 1) + (5 + 1))) := by omega
  rw [hsteps]
  refine Eq.trans (run_add _ (run_apShift hwf hh hp)) ?_
  refine Eq.trans (run_add _ (run_apConfRd hwf hh rfl hd)) ?_
  refine Eq.trans (run_add _ (run_apConfPoll hwf hh rfl hpolls hlast rfl)) ?_
  refine Eq.trans (run_add _ (run_apPlOffset hwf hh rfl)) ?_
  refine Eq.trans (run_succ_block hwf hh (blockStep_apPublish_ok_of_script rfl hpub)) ?_
  simp [run, State.applied, applyEvents, State.finish, State.publishRecord, modeOf, Nat.add_assoc, Nat.add_comm 1]

/-- Settles O47: issue leads to `AP_SHIFT`, from where the run is that of `run_apply`. -/
theorem applyProgramsTheWholeModeInOrder : Obligations.ApplyProgramsTheWholeModeInOrder := by
  intro s a0 a1 c0 last polls rest prest hwf hh hfree hv hap hpolls hlast hd hpub
  obtain ⟨-, happly, -⟩ := decodeApplyAndModeQueryStart s a0 a1 hfree
  obtain ⟨hle, hlt⟩ := apertureOk_iff.mp hap
  have hissue := happly hv hle hlt
  refine ⟨_, _, hissue, run_apply hwf hh rfl hpolls hlast hd hpub, rfl, rfl, rfl, rfl, rfl, rfl, rfl, rfl, rfl, ?length, ?hist⟩
  case length =>
    simp only [State.applied, List.length_append, applyEvents_length, List.length_singleton]
    omega
  case hist => simp [State.applied, applyEvents, timingEvents, enableEvents, planeEvents, planeStrideWord, surfaceWord]

end Sys2Proof.Machine
end

section
/-! PROOFS. The family 60_exceptions.md: the checks of command issue in their order (R246; R82, R83), and the commands that
surface the codes 8 to 11 (R242).

A word that passes the check for illegal words is the command word of an opcode and a pin, so each later check is a fact about
these two. What a step does to `RESULT` is said once, by the relation `ResultChange`, from one case split over the phases. -/

namespace Sys2Proof.Machine

variable {s t : State} {tr : Transport} {cw : U32} {a0 a1 : U64}

/-! ## Illegal command words (R83) -/

theorem takesPin_iff {op : U8} : takesPin op = true ↔ op ∈ ([0x10, 0x11] : List U8) := by
  simp [takesPin]

/-- An opcode that stands for an instruction is one of R81's table. -/
theorem mem_opcodes_of_instrOfOp {op pin : U8} {i : Instr} (hi : instrOfOp op pin a0 a1 = some i) :
    op ∈ ([0x00, 0x01, 0x02, 0x03, 0x10, 0x11, 0x12, 0x13, 0x20, 0x30, 0x31] : List U8) := by
  by_contra hop
  simp only [List.mem_cons, List.not_mem_nil, or_false, not_or, BitVec.ofNat_eq_ofNat] at hop
  simp [instrOfOp, hop] at hi

theorem decodeCommand_of_illegalWord (h : illegalWord cw) : ∃ e, decodeCommand ⟨cw, a0, a1⟩ = .rejected e := by
  cases hd : decodeCommand ⟨cw, a0, a1⟩ with
  | rejected e => exact ⟨e, rfl⟩
  | ok i =>
    obtain ⟨hrsvd, hi, hpin⟩ := decodeCommand_ok hd
    obtain hrsvd' | hop | ⟨hop, hpin'⟩ := h
    · exact absurd hrsvd hrsvd'
    · exact absurd (mem_opcodes_of_instrOfOp hi) hop
    · exact absurd hpin (not_or.mpr ⟨mt takesPin_iff.mp hop, hpin'⟩)

/-- A word that is not illegal is the command word of an opcode and a pin, the pin 0 where the opcode takes none. -/
theorem exists_commandWord_of_not_illegalWord (h : ¬ illegalWord cw) :
    ∃ op pin, cw = commandWord op pin ∧ (takesPin op = true ∨ pin = 0) := by
  obtain ⟨hrsvd, hrest⟩ := not_or.mp h
  obtain ⟨-, hpin⟩ := not_or.mp hrest
  refine ⟨cwOp cw, cwPin cw, (commandWord_of_rsvd (not_not.mp hrsvd)).symm, or_iff_not_imp_left.mpr fun hop => ?_⟩
  by_contra hpin'
  exact hpin ⟨mt takesPin_iff.mpr hop, hpin'⟩

/-! ## The later checks, by opcode and pin -/

theorem badOperands_commandWord {op pin : U8} : badOperands (commandWord op pin) a0 a1 ↔
    (op = 0x10 ∧ ¬ (2 ≤ pin.toNat ∧ pin.toNat ≤ 6)) ∨ (op = 0x11 ∧ ¬ pin.toNat ≤ 5) ∨
    ((op = 0x01 ∨ op = 0x02 ∨ op = 0x03) ∧ a0.toNat ≥ 2 ^ 32) ∨ (op = 0x02 ∧ a1.toNat ≥ 2 ^ 32) := by
  have hop : bits 7 0 (commandWord op pin) = op := cwOp_commandWord op pin
  have hpin : bits 15 8 (commandWord op pin) = pin := cwPin_commandWord op pin
  rw [badOperands, hop, hpin]

theorem notReadyFor_commandWord {op pin : U8} : notReadyFor s (commandWord op pin) ↔
    (op = 0x20 ∧ s.edidValid = false) ∨ (op = 0x30 ∧ s.timingValid = false) := by
  have hop : bits 7 0 (commandWord op pin) = op := cwOp_commandWord op pin
  rw [notReadyFor, hop]

theorem commandIssue_commandWord {op pin : U8} {i : Instr} (hi : instrOfOp op pin a0 a1 = some i)
    (hpin : (takesPin op || pin == 0) = true) : commandIssue ⟨commandWord op pin, a0, a1⟩ s = exec i s :=
  commandIssue_of_ok (decodeCommand_commandWord hi hpin)

/-! ## What a free block turns away (R82) -/

theorem commandIssue_of_illegalWord (hfree : s.busy = false) (h : illegalWord cw) :
    commandIssue ⟨cw, a0, a1⟩ s = .next (s.reject .illegalCmd cw) := by
  obtain ⟨e, hd⟩ := decodeCommand_of_illegalWord h
  rw [commandIssue_of_rejected hd, State.unlessBusy_of_free hfree]

theorem execTwRead_badPin {pin : U8} (hfree : s.busy = false) (h : ¬ (2 ≤ pin.toNat ∧ pin.toNat ≤ 6)) :
    execTwRead pin a0 a1 s = .next (s.reject .badOperand (commandWord Op.twRead pin)) := by
  rw [execTwRead, State.unlessBusy_of_free hfree, if_neg (mt twPinOk_iff.mp h)]

theorem execAuxRead_badPin {pin : U8} (hfree : s.busy = false) (h : ¬ pin.toNat ≤ 5) :
    execAuxRead pin a0 a1 s = .next (s.reject .badOperand (commandWord Op.auxRead pin)) := by
  rw [execAuxRead, State.unlessBusy_of_free hfree, if_neg (mt auxPinOk_iff.mp h)]

theorem issuePort_badOperand {op : U8} {ok al : Bool} {p : Phase} (hfree : s.busy = false) (hok : ok ≠ true) :
    issuePort op ok al a0 a1 p s = .next (s.reject .badOperand (commandWord op 0)) := by
  rw [issuePort, State.unlessBusy_of_free hfree, if_neg hok]

theorem highHalfZero_ne {a : U64} (h : a.toNat ≥ 2 ^ 32) : highHalfZero a ≠ true :=
  mt highHalfZero_iff.mp (Nat.not_lt.mpr h)

theorem execDecode_notReady (hfree : s.busy = false) (hv : s.edidValid = false) :
    execDecode a0 a1 s = .next (s.reject .notReady (commandWord Op.decode 0)) := by
  rw [execDecode, State.unlessBusy_of_free hfree, hv]
  rfl

theorem execApply_notReady (hfree : s.busy = false) (hv : s.timingValid = false) :
    execApply a0 a1 s = .next (s.reject .notReady (commandWord Op.apply 0)) := by
  rw [execApply, State.unlessBusy_of_free hfree, hv]
  rfl

/-- A bad operand is a pin out of range or a high half that is not 0 (R83). -/
theorem commandIssue_of_badOperands (hfree : s.busy = false) (hlegal : ¬ illegalWord cw) (h : badOperands cw a0 a1) :
    commandIssue ⟨cw, a0, a1⟩ s = .next (s.reject .badOperand cw) := by
  obtain ⟨op, pin, rfl, hpin⟩ := exists_commandWord_of_not_illegalWord hlegal
  obtain ⟨rfl, hp⟩ | ⟨rfl, hp⟩ | ⟨rfl | rfl | rfl, h0⟩ | ⟨rfl, h1⟩ := badOperands_commandWord.mp h
  · exact (commandIssue_commandWord (i := .twRead pin a0 a1) rfl rfl).trans (execTwRead_badPin hfree hp)
  · exact (commandIssue_commandWord (i := .auxRead pin a0 a1) rfl rfl).trans (execAuxRead_badPin hfree hp)
  all_goals obtain rfl := hpin.resolve_left nofun
  · exact (commandIssue_commandWord (i := .portRd32 a0 a1) rfl rfl).trans (issuePort_badOperand hfree (highHalfZero_ne h0))
  · exact (commandIssue_commandWord (i := .portWr32 a0 a1) rfl rfl).trans
      (issuePort_badOperand hfree fun hok => highHalfZero_ne h0 (Bool.and_eq_true_iff.mp hok).1)
  · exact (commandIssue_commandWord (i := .portRd64 a0 a1) rfl rfl).trans (issuePort_badOperand hfree (highHalfZero_ne h0))
  · exact (commandIssue_commandWord (i := .portWr32 a0 a1) rfl rfl).trans
      (issuePort_badOperand hfree fun hok => highHalfZero_ne h1 (Bool.and_eq_true_iff.mp hok).2)

theorem commandIssue_of_notReadyFor (hfree : s.busy = false) (hlegal : ¬ illegalWord cw) (h : notReadyFor s cw) :
    commandIssue ⟨cw, a0, a1⟩ s = .next (s.reject .notReady cw) := by
  obtain ⟨op, pin, rfl, hpin⟩ := exists_commandWord_of_not_illegalWord hlegal
  obtain ⟨rfl, hv⟩ | ⟨rfl, hv⟩ := notReadyFor_commandWord.mp h
  all_goals obtain rfl := hpin.resolve_left nofun
  · exact (commandIssue_commandWord (i := .decode a0 a1) rfl rfl).trans (execDecode_notReady hfree hv)
  · exact (commandIssue_commandWord (i := .apply a0 a1) rfl rfl).trans (execApply_notReady hfree hv)

/-- Settles O8: the four outcomes of issue, each under the failure of the checks before it. -/
theorem issueChecksInOrder : Obligations.IssueChecksInOrder :=
  fun _ _ _ _ => ⟨commandIssue_of_busy _, commandIssue_of_illegalWord, commandIssue_of_badOperands,
    fun hfree hlegal _ => commandIssue_of_notReadyFor hfree hlegal⟩

/-! ## What a step does to `RESULT` (R241, R242) -/

/-- What a step may do to `RESULT` while the latched opcode is `op`: leave it, write a code below 8, or, for a single-attempt
command, surface the outcome of its attempt. -/
inductive ResultChange (op : U8) (old : ResultCode) : ResultCode → Prop where
  | kept : ResultChange op old old
  | below (new : ResultCode) (h : new.code.toNat < 8) : ResultChange op old new
  | surfaced (new : ResultCode) (h : op = Op.twRead ∨ op = Op.auxRead) : ResultChange op old new

/-- A step from `s` to `t` treats `RESULT` as `ResultChange` says. -/
def State.ResultStep (s t : State) : Prop := ResultChange s.cmdOp s.result t.result

theorem resultStep_kept (h : t.result = s.result) : s.ResultStep t := by
  rw [State.ResultStep, h]
  exact .kept

theorem resultStep_finish {u : State} {code : ResultCode} {info : U32} (h : code.code.toNat < 8) :
    s.ResultStep (u.finish code info) :=
  .below code h

theorem resultStep_reject {u : State} {code : ResultCode} (h : code.code.toNat < 8) : s.ResultStep (u.reject code cw) :=
  .below code h

theorem State.ResultStep.of_next {u : State} (hu : s.ResultStep u) (hs : (.next u : Outcome) = .next t) : s.ResultStep t :=
  Host.Outcome.next.inj hs ▸ hu

theorem recordOutcome_result (o : AttemptOutcome) : (s.recordOutcome tr o).result = s.result := by
  cases o <;> rfl

/-- The end of an attempt surfaces its outcome for a single-attempt command only (R176). -/
theorem attemptEnd_resultStep (o : AttemptOutcome) : s.ResultStep (attemptEnd tr o s) := by
  by_cases hop : s.cmdOp = Op.twRead ∨ s.cmdOp = Op.auxRead
  · exact .surfaced _ hop
  · obtain ⟨htw, haux⟩ := not_or.mp hop
    rw [attemptEnd_search htw haux]
    exact resultStep_kept (recordOutcome_result o)

theorem withAuxPin_resultStep {k : AuxOffsets → State} (hs : s.withAuxPin k = .next t)
    (hk : ∀ a, (k a).result = s.result) : s.ResultStep t := by
  obtain ⟨a, -, rfl⟩ := State.withAuxPin_next.mp hs
  exact resultStep_kept (hk a)

theorem phaseTwWaitIdle_resultStep : s.ResultStep (phaseTwWaitIdle s) := by
  unfold phaseTwWaitIdle
  split
  · exact attemptEnd_resultStep (s := s.twPolled) _
  · exact .kept
  · exact .kept

theorem phaseTwWaitIdx_resultStep : s.ResultStep (phaseTwWaitIdx s) := by
  unfold phaseTwWaitIdx
  split <;> exact .kept

theorem phaseTwWaitWord_resultStep : s.ResultStep (phaseTwWaitWord s) := by
  unfold phaseTwWaitWord
  split <;> exact .kept

theorem phaseTwRdWord_resultStep (hs : phaseTwRdWord s = .next t) : s.ResultStep t := by
  unfold phaseTwRdWord at hs
  split at hs
  · obtain rfl := Host.Outcome.next.inj hs
    exact .kept
  · nomatch hs

theorem phaseTwWaitStop_resultStep : s.ResultStep (phaseTwWaitStop s) := by
  unfold phaseTwWaitStop
  split <;> exact .kept

theorem phaseAxLoadHdr_resultStep (hs : phaseAxLoadHdr s = .next t) : s.ResultStep t := by
  unfold phaseAxLoadHdr at hs
  split at hs <;> exact withAuxPin_resultStep hs fun _ => rfl

theorem phaseAxAfter_resultStep : s.ResultStep (phaseAxAfter s) := by
  unfold phaseAxAfter
  split
  · exact .kept
  · split
    · exact attemptEnd_resultStep _
    · exact .kept
  · exact .kept

theorem phaseAxFetch_resultStep (hs : phaseAxFetch s = .next t) : s.ResultStep t := by
  unfold phaseAxFetch at hs
  split at hs
  · exact withAuxPin_resultStep hs fun _ => rfl
  · nomatch hs

theorem phaseAqNextTw_resultStep : s.ResultStep (phaseAqNextTw s) := by
  unfold phaseAqNextTw
  split <;> exact .kept

theorem phaseAqNextAux_resultStep : s.ResultStep (phaseAqNextAux s) := by
  unfold phaseAqNextAux
  split <;> exact .kept

theorem phaseAqDone_resultStep : s.ResultStep (phaseAqDone s) := by
  unfold phaseAqDone
  split
  · exact .kept
  · exact resultStep_finish (by decide)

theorem phaseApPublish_resultStep : s.ResultStep (phaseApPublish s) := by
  unfold phaseApPublish
  split
  · exact resultStep_finish (by decide)
  · split
    · exact resultStep_finish (by decide)
    · exact .kept
  · exact resultStep_finish (by decide)

theorem phaseApGrow_resultStep : s.ResultStep (phaseApGrow s) := by
  unfold phaseApGrow
  split
  · exact .kept
  · exact resultStep_finish (by decide)

/-- What the block's own step does to `RESULT`, phase by phase; the phases left to the end move on inside a command. -/
theorem blockStep_resultStep (hs : blockStep s = .next t) : s.ResultStep t := by
  cases hp : s.pc <;> rw [blockStep, hp] at hs
  case twRdWord => exact phaseTwRdWord_resultStep hs
  case axLoadHdr => exact phaseAxLoadHdr_resultStep hs
  case axLoadData | axStart | axPoll | axClear => exact withAuxPin_resultStep hs fun _ => rfl
  case axFetch => exact phaseAxFetch_resultStep hs
  all_goals obtain rfl := Host.Outcome.next.inj hs
  case ptRd32 | ptWr32 | ptRd64 | aqFail | dcRun | mqRun => exact resultStep_finish (by decide)
  case twWaitIdle => exact phaseTwWaitIdle_resultStep
  case twWaitIdx => exact phaseTwWaitIdx_resultStep
  case twWaitWord => exact phaseTwWaitWord_resultStep
  case twWaitStop => exact phaseTwWaitStop_resultStep
  case twCheck | axCheck => exact attemptEnd_resultStep _
  case axAfter => exact phaseAxAfter_resultStep
  case aqNextTw => exact phaseAqNextTw_resultStep
  case aqNextAux => exact phaseAqNextAux_resultStep
  case aqDone => exact phaseAqDone_resultStep
  case apPublish => exact phaseApPublish_resultStep
  case apGrow => exact phaseApGrow_resultStep
  all_goals exact resultStep_kept rfl

theorem unlessBusy_resultStep {k : Outcome} (hs : s.unlessBusy k = .next t) (hk : k = .next t → s.ResultStep t) :
    s.ResultStep t := by
  cases hb : s.busy with
  | false => exact hk (by rwa [State.unlessBusy_of_free hb] at hs)
  | true => exact State.ResultStep.of_next .kept ((State.unlessBusy_of_busy hb k).symm.trans hs)

theorem issuePort_resultStep {op : U8} {ok al : Bool} {p : Phase} (hs : issuePort op ok al a0 a1 p s = .next t) :
    s.ResultStep t := by
  obtain ⟨-, rfl⟩ | ⟨-, -, rfl⟩ | ⟨-, -, -, rfl⟩ := issuePort_next hs
  · exact .kept
  · exact resultStep_reject (by decide)
  · exact .kept

/-- A command that is accepted under a condition and else turned away with a code below 8. -/
theorem acceptOrReject_resultStep {c : Prop} [Decidable c] {u : State} {code : ResultCode}
    (hs : s.unlessBusy (.next (if c then u else s.reject code cw)) = .next t) (hu : u.result = s.result)
    (hcode : code.code.toNat < 8) : s.ResultStep t := by
  refine unlessBusy_resultStep hs fun hk => ?_
  split at hk
  · exact (resultStep_kept hu).of_next hk
  · exact (resultStep_reject hcode).of_next hk

theorem execApply_resultStep (hs : execApply a0 a1 s = .next t) : s.ResultStep t := by
  refine unlessBusy_resultStep hs fun hk => ?_
  split_ifs at hk
  · obtain rfl := Host.Outcome.next.inj hk
    exact .kept
  · exact (resultStep_reject (by decide)).of_next hk

/-- Command issue writes the codes of R246 and `OK` only, all below 8. -/
theorem commandIssue_resultStep {w : CmdWords} (hs : commandIssue w s = .next t) : s.ResultStep t := by
  obtain ⟨i, hd, hx⟩ | ⟨e, -, ⟨-, rfl⟩ | ⟨-, rfl⟩⟩ := commandIssue_next hs
  · obtain ⟨-, hi, -⟩ := decodeCommand_ok hd
    obtain rfl | rfl | rfl | rfl | rfl | rfl | rfl | rfl | rfl | rfl | rfl := instrOfOp_some hi
    · exact unlessBusy_resultStep hx (State.ResultStep.of_next (.below .ok (by decide)))
    · exact issuePort_resultStep hx
    · exact issuePort_resultStep hx
    · exact issuePort_resultStep hx
    · exact acceptOrReject_resultStep hx rfl (by decide)
    · exact acceptOrReject_resultStep hx rfl (by decide)
    · exact unlessBusy_resultStep hx (State.ResultStep.of_next .kept)
    · exact unlessBusy_resultStep hx (State.ResultStep.of_next .kept)
    · exact acceptOrReject_resultStep hx rfl (by decide)
    · exact execApply_resultStep hx
    · exact unlessBusy_resultStep hx (State.ResultStep.of_next .kept)
  · exact .kept
  · exact resultStep_reject (by decide)

/-- Every step of the machine; `RESET` writes `OK`. -/
theorem step_resultStep (hs : step s = .next t) : s.ResultStep t := by
  obtain ⟨-, hcases⟩ := step_next hs
  obtain ⟨-, hb⟩ | ⟨rest, -, hb⟩ | ⟨rest, -, -, hb⟩ | ⟨rest, -, -, rfl⟩ | ⟨cw, a0, a1, rest, -, hc⟩ | ⟨rest, -, rfl⟩ |
    ⟨reg, rest, -, -, rfl⟩ := hcases
  · exact blockStep_resultStep hb
  · exact blockStep_resultStep (s := { s with hostIn := rest }) hb
  · exact blockStep_resultStep hb
  · exact .kept
  · exact commandIssue_resultStep (s := { s with hostIn := rest }) hc
  · exact .below .ok (by decide)
  · exact .kept

/-- Settles O58: of the three things a step can do to `RESULT`, one writes a code of 8 or more. -/
theorem localOutcomesAreNotSurfacedBySearches : Obligations.LocalOutcomesAreNotSurfacedBySearches := by
  intro s t hs hne hcode
  have hstep : ResultChange s.cmdOp s.result t.result := step_resultStep hs
  generalize t.result = new at hne hcode hstep
  cases hstep with
  | kept => exact absurd rfl hne
  | below _ h => exact absurd hcode (Nat.not_le.mpr h)
  | surfaced _ h => exact h

end Sys2Proof.Machine
end

section
/-! PROOFS. The `RESET` event (70_reset_and_hazards.md R270): one step of the host that puts the block into the state of
10_state.md R53. -/

namespace Sys2Proof.Machine

/-- Settles O2: the step of a `RESET` is `State.hostReset`, whose registers are those of `State.reset`, so R53 gives their
values; `HIST`, the configuration and the inputs are what `hostReset` carries over. -/
theorem resetEventAlwaysReturnsToIdle : Obligations.ResetEventAlwaysReturnsToIdle := by
  intro s rest hwf hhost
  obtain ⟨hpc, hbusy, hresult, hinfo, hrdata, hop, hpin, harg0, harg1, hedid, htiming, hconf, hhres, hvres, -, -⟩ :=
    resetLeavesTheSpecifiedValues
  exact ⟨_, step_reset hwf hhost, hpc, hbusy, hresult, hinfo, hrdata, hop, hpin, harg0, harg1, hedid, htiming, hconf, hhres,
    hvres, State.hostReset_hist _, State.hostReset_cfg _, State.hostReset_hostIn _, State.hostReset_devIn _⟩

end Sys2Proof.Machine
end
